-- ==== Sys2Proof/Word.lean ====
section
/-! DEFINITION. The plainest types of the GJ24 model: bytes and the numbers by which the manual names
its districts, feeds, groups, status outputs and counters. -/

namespace Sys2Proof

/-- One byte on the link, and one byte of a frame. -/
abbrev Byte := BitVec 8

/-- A district number, 0 to 23 (R1). -/
abbrev DistrictNo := Fin 24

/-- A feed (booster) number, 0 to 3 (R68). -/
abbrev FeedNo := Fin 4

/-- A restart group. The manual numbers the groups 1 to 8 (R86): group `g` of the manual is the value
`g - 1` here, and "no group" (the manual's 0) is `none` of `Option GroupNo`. -/
abbrev GroupNo := Fin 8

/-- A status output number, 0 to 7 (R125). -/
abbrev LineNo := Fin 8

/-- A counter index, 0 to 127 (R114). -/
abbrev CounterIx := Fin 128

end Sys2Proof
end

