-- ==== Sys2Proof/Syntax.lean ====
section
/-! DEFINITION. The commands of the GJ24: one constructor of `Instr` for each row of
spec/opcode_table.json, and the small types their operands need. A request row carries the tag and the
body bytes of its frame just as the host sent them, so that every form the manual speaks of (a body of
the wrong length, a byte outside its codes, a set unused bit) is a term of the type. -/

namespace Sys2Proof

/-- The level of an electrical line. -/
inductive Level where
  | low
  | high
  deriving DecidableEq, Repr

/-- The two link rates that the rate strap chooses between (R133). -/
inductive LinkRate where
  | baud57600
  | baud230400
  deriving DecidableEq, Repr

/-- The content of one frame on the link, without its start, length and check bytes (R134). -/
structure Frame where
  kind : Byte
  tag : Byte
  body : List Byte
  deriving DecidableEq, Repr

/-- The commands: the events and requests of spec/opcode_table.json, one constructor a row. -/
inductive Instr where
  /-- SAMPLE (R21): the Sense Unit delivers a sample of district `d`, with its over-range mark. -/
  | sample (d : DistrictNo) (value : BitVec 12) (overRange : Bool)
  /-- SETTLE_EXPIRY (R47). -/
  | settleExpiry (d : DistrictNo)
  /-- PROVING_EXPIRY (R49). -/
  | provingExpiry (d : DistrictNo)
  /-- BACKOFF_EXPIRY (R56). -/
  | backoffExpiry (d : DistrictNo)
  /-- INTERVAL_EXPIRY (R107). -/
  | intervalExpiry
  /-- BEAT_INPUT_EDGE (R108): the beat input rises from low to high. -/
  | beatInputEdge
  /-- PULSE_EXPIRY (R112). -/
  | pulseExpiry
  /-- FEED_FAULT_EDGE (R73): the fault input of feed `f` goes to `level`. -/
  | feedFaultEdge (f : FeedNo) (level : Level)
  /-- RESUME_EXPIRY (R79). -/
  | resumeExpiry (f : FeedNo)
  /-- RECEIVE_BYTE (R135): a character arrives, with its data bits and the level of its stop bit. -/
  | receiveByte (data : Byte) (stopBit : Level)
  /-- GAP_EXPIRY (R136). -/
  | gapExpiry
  /-- TRANSMISSION_END (R144). -/
  | transmissionEnd
  /-- SOFT_RESET (R145): the end of the Reset reply's last byte. -/
  | softReset
  /-- HARD_RESET (R174): the reset input falls. -/
  | hardReset
  /-- RESET_END (R176): the reset input rises, the rate strap standing at `strap`. -/
  | resetEnd (strap : LinkRate)
  /-- POWER_UP (R177): power-up completes, the rate strap standing at `strap`. -/
  | powerUp (strap : LinkRate)
  /-- IDENTIFY (R149). -/
  | identify (tag : Byte) (body : List Byte)
  /-- CONFIGURE_DISTRICT (R3). -/
  | configureDistrict (tag : Byte) (body : List Byte)
  /-- READ_DISTRICT (R150). -/
  | readDistrict (tag : Byte) (body : List Byte)
  /-- CONFIGURE_FEED (R69). -/
  | configureFeed (tag : Byte) (body : List Byte)
  /-- READ_FEED (R151). -/
  | readFeed (tag : Byte) (body : List Byte)
  /-- CONFIGURE_GROUP (R100). -/
  | configureGroup (tag : Byte) (body : List Byte)
  /-- CONFIGURE_BEAT (R110). -/
  | configureBeat (tag : Byte) (body : List Byte)
  /-- SINGLE_BEAT (R111). -/
  | singleBeat (tag : Byte) (body : List Byte)
  /-- ON (R43). -/
  | on (tag : Byte) (body : List Byte)
  /-- OFF (R44). -/
  | off (tag : Byte) (body : List Byte)
  /-- ALL_OFF (R45). -/
  | allOff (tag : Byte) (body : List Byte)
  /-- CLEAR (R57). -/
  | clear (tag : Byte) (body : List Byte)
  /-- HOLD (R58). -/
  | hold (tag : Byte) (body : List Byte)
  /-- RELEASE (R59). -/
  | release (tag : Byte) (body : List Byte)
  /-- SET_POLARITY (R60). -/
  | setPolarity (tag : Byte) (body : List Byte)
  /-- READ_SUMMARY (R152). -/
  | readSummary (tag : Byte) (body : List Byte)
  /-- READ_COUNTERS (R121). -/
  | readCounters (tag : Byte) (body : List Byte)
  /-- READ_AND_CLEAR_COUNTERS (R122). -/
  | readAndClearCounters (tag : Byte) (body : List Byte)
  /-- CONFIGURE_COUNTERS (R120). -/
  | configureCounters (tag : Byte) (body : List Byte)
  /-- CONFIGURE_STATUS_LINE (R130). -/
  | configureStatusLine (tag : Byte) (body : List Byte)
  /-- CONFIGURE_NOTICES (R173). -/
  | configureNotices (tag : Byte) (body : List Byte)
  /-- SET_INCIDENT_WRAP (R63). -/
  | setIncidentWrap (tag : Byte) (body : List Byte)
  /-- LINK_STATUS (R153). -/
  | linkStatus (tag : Byte) (body : List Byte)
  /-- RESET (R166). -/
  | reset (tag : Byte) (body : List Byte)
  /-- UNKNOWN_KIND_REQUEST (R140): a good frame whose kind is not a request kind. -/
  | unknownKindRequest (kind : Byte) (tag : Byte) (body : List Byte)
  /-- LOSS_OF_SUPPLY (R177). -/
  | lossOfSupply
  deriving DecidableEq, Repr

end Sys2Proof
end

