-- ==== Sys2Proof/Decode.lean ====
section
/-! DEFINITION. The command that a word spells by the bits of spec/opcode_table.json. The table gives no
row any bits (every row's "fields" is empty and none has "fixed"), so no word spells a command. The
decoding of the frames that the link carries is in Machine/Frames.lean, Machine/Operands.lean and
Machine/Link.lean. -/

namespace Sys2Proof

/-- The command that the table's bits spell: none, since the table gives no row any bits. -/
def decodeTableWord (_nbits _w : Nat) : Option Instr := none

end Sys2Proof
end

