-- ==== Sys2Proof/Config.lean ====
section
/-! DEFINITION. What one GJ24 fixes and no event changes: its capacities and constants, the unit in
which the model counts time, and the free values. -/

namespace Sys2Proof.Config

/-- The model counts time in ticks of 1/1152 ms: the coarsest unit in which a millisecond and the bit
times of both link rates (R133) are whole. DESIGN CHOICE (log entry 2). -/
def ticksPerMs : Nat := 1152

/-- The time of one bit on the link, in ticks (R133): 1/57,600 s and 1/230,400 s. -/
def bitTicks : LinkRate → Nat
  | .baud57600 => 20
  | .baud230400 => 5

/-- The notice queue has room for 48 notices (R168). -/
def noticeCapacity : Nat := 48

/-- The receive buffer holds up to 4 complete request frames (R138). -/
def receiveCapacity : Nat := 4

/-- The reply queue holds up to 4 replies (R143). -/
def replyCapacity : Nat := 4

/-- The top of a counter's range (R114). -/
def counterTop : Nat := 65535

/-- FREE VALUE. Where several timers run out at one moment the manual says that their expiries may be
taken in either order; which of them comes next is this constant's, of which nothing is known (log
entry 3). -/
opaque choice : Nat → Nat

/-- FREE VALUE. Whether a character is arriving on the receive line at a tick of the model's clock. When a
character begins is the host's doing and no row of the table tells it, but the gap timer measures to that
moment (R136): nothing is known of it (log entry 7). -/
opaque characterArriving : Nat → Bool

end Sys2Proof.Config
end

