-- ==== Sys2Proof/Machine/State.lean ====
section
/-! DEFINITION. The state of the GJ24 as plain data, block by block as the manual's table of
functional blocks names it, its values after reset, and the reasons a step could stop. -/

namespace Sys2Proof.Machine

/-- The vector whose entry at each index is `f` of the index. It is kept folded, so that no proof about
another part of the state computes it entry by entry. -/
@[irreducible] def tabulate {α : Type} {n : Nat} (f : Fin n → α) : Vector α n := Vector.ofFn f

/-- The seven district states (R12). -/
inductive DistrictState where
  | off
  | backoff
  | ready
  | settling
  | proving
  | energized
  | lockout
  deriving DecidableEq, Repr

/-- Whether a district's polarity is fixed (R2). -/
inductive DistrictKind where
  | plain
  | reversing
  deriving DecidableEq, Repr

/-- The polarity of a district's output (R13). -/
inductive Polarity where
  | normal
  | reversed
  deriving DecidableEq, Repr

/-- The phase of a district's one timer (R14). `idle` is the manual's phase none. -/
inductive TimerPhase where
  | idle
  | settle
  | proving
  | backoff
  deriving DecidableEq, Repr

/-- The cause of a trip (R34). The "none" of the last trip cause is `Option.none`. -/
inductive TripCause where
  | accumulated
  | hard
  deriving DecidableEq, Repr

/-- The configuration fields of a district record (R2), in the units of that table. -/
structure DistrictConfig where
  feed : FeedNo
  kind : DistrictKind
  group : Option GroupNo
  parent : Option DistrictNo
  priority : Nat
  /-- T, in sense units. -/
  tripThreshold : Nat
  /-- L. -/
  tripLevel : Nat
  /-- D. -/
  drain : Nat
  /-- H, in sense units. -/
  hardLimit : Nat
  /-- S, in sense units. -/
  settleAllowance : Nat
  /-- F; 0 disables flipping. -/
  flipLevel : Nat
  /-- G, in samples. -/
  guardLength : Nat
  /-- In units of 1 ms. -/
  settleTime : Nat
  /-- In units of 100 ms. -/
  provingTime : Nat
  retryBudget : Nat
  /-- B, in units of 10 ms. -/
  backoffBase : Nat
  /-- Bmax, in units of 10 ms. -/
  backoffCap : Nat
  /-- In budget units. -/
  declaredClaim : Nat
  learnPeak : Bool
  deriving DecidableEq, Repr

/-- One district: its configuration and live fields (R2, R11), with the Sense Unit's values (R23, R24)
and the Trip Detector's values (R25) of the same district. -/
structure District where
  config : DistrictConfig
  state : DistrictState
  switchClosed : Bool
  polarity : Polarity
  timerPhase : TimerPhase
  /-- The timer's remaining time, in ticks. -/
  timerLeft : Nat
  attemptsLeft : Nat
  backoffStep : Nat
  incident : Nat
  incidentOpen : Bool
  holdMark : Bool
  feedLossMark : Bool
  heldClaim : Option Nat
  observedPeak : Option Nat
  lastTripCause : Option TripCause
  /-- Sense Unit: the last sample's value (R23). -/
  lastSample : Nat
  /-- Sense Unit: the last sample's over-range mark (R23). -/
  overRange : Bool
  /-- Sense Unit: the peak-in-settle (R24). -/
  peakInSettle : Nat
  /-- Trip Detector: A (R25). -/
  accumulator : Nat
  /-- Trip Detector: the flip-armed mark (R25). -/
  flipArmed : Bool
  /-- Trip Detector: the guard run count (R25). -/
  guardRun : Nat
  deriving DecidableEq, Repr

/-- The line level at which a fault input is asserted (R68). -/
inductive FaultLevel where
  | activeLow
  | activeHigh
  deriving DecidableEq, Repr

/-- The states of a feed (section 4.3). -/
inductive FeedState where
  | normal
  | suspended
  | resuming
  deriving DecidableEq, Repr

/-- The fault input as the Feed Monitor interprets it (section 4.3). -/
inductive LineLevel where
  | released
  | asserted
  deriving DecidableEq, Repr

/-- One feed record (R68). -/
structure Feed where
  /-- In budget units. -/
  allowance : Nat
  launchWidth : Nat
  faultLevel : FaultLevel
  /-- In units of 10 ms. -/
  resumeDelay : Nat
  state : FeedState
  /-- Remaining time in ticks, or `none` while stopped. -/
  resumeTimer : Option Nat
  lineLevel : LineLevel
  heldSum : Nat
  deriving DecidableEq, Repr

/-- The modes of a restart group (R86). -/
inductive GroupMode where
  | asAvailable
  | synchronized
  deriving DecidableEq, Repr

/-- The modes of the Beat Generator (R106). -/
inductive BeatMode where
  | internal
  | external
  | manual
  deriving DecidableEq, Repr

/-- The Beat Generator (R106). -/
structure BeatGenerator where
  mode : BeatMode
  /-- In ms. -/
  interval : Nat
  /-- In ms. -/
  spacing : Nat
  /-- Remaining time in ticks, or `none` while stopped. -/
  intervalTimer : Option Nat
  /-- The time of the most recent beat, in ticks of `State.now`, or none. -/
  lastBeat : Option Nat
  /-- Remaining time in ticks, or `none` while stopped. -/
  pulseTimer : Option Nat
  deriving DecidableEq, Repr

/-- The attention marks of a counter (R114). -/
inductive AttentionMark where
  | half
  | full
  deriving DecidableEq, Repr

/-- One event counter with its two attention marks (R114). -/
structure Counter where
  value : Nat
  half : Bool
  full : Bool
  deriving DecidableEq, Repr

/-- What a counter does at the top of its range (R114). -/
inductive CounterMode where
  | wrap
  | stop
  deriving DecidableEq, Repr

/-- The Counter Bank (R114). -/
structure CounterBank where
  counters : Vector Counter 128
  mode : CounterMode
  noticeEnable : Bool
  deriving DecidableEq, Repr

/-- A status source: one of the fourteen kinds of R126 together with its object. -/
inductive Source where
  | constantLow
  | constantHigh
  | districtEnergized (d : DistrictNo)
  | districtPowered (d : DistrictNo)
  | districtTripped (d : DistrictNo)
  | districtLockout (d : DistrictNo)
  | districtReversed (d : DistrictNo)
  | feedAnyTripped (f : FeedNo)
  | feedAllPowered (f : FeedNo)
  | feedSuspended (f : FeedNo)
  | deviceAnyLockout
  | deviceNoticePending
  | deviceCounterAttention
  | beatPulse
  deriving DecidableEq, Repr

/-- One line record: source kind and object, invert mark, and the level driven (R125). -/
structure StatusLine where
  source : Source
  invert : Bool
  level : Level
  deriving DecidableEq, Repr

/-- The six kinds of notice, as the kind mask numbers its bits (R167). -/
inductive NoticeKind where
  | trip
  | flip
  | launch
  | proven
  | feed
  | counter
  deriving DecidableEq, Repr

/-- A notice with its fields as taken when it was made (R169). -/
inductive Notice where
  | trip (d : DistrictNo) (incident : Nat) (cause : TripCause) (entered : DistrictState)
      (sample : Nat) (overRange : Bool)
  | flip (d : DistrictNo) (polarity : Polarity)
  | launch (d : DistrictNo) (incident : Nat) (claim : Nat) (feedLoss : Bool)
  | proven (d : DistrictNo) (incident : Nat) (attemptsUsed : Nat)
  | feed (f : FeedNo) (state : FeedState)
  | counter (i : CounterIx) (mark : AttentionMark)
  deriving DecidableEq, Repr

/-- A notice in the queue, with its lost-before-this header bit (R170). -/
structure QueuedNotice where
  notice : Notice
  lostBefore : Bool
  deriving DecidableEq, Repr

/-- The Notice Queue (R168). -/
structure NoticeQueue where
  /-- Oldest first. -/
  entries : List QueuedNotice
  lost : Bool
  /-- One enable per kind, at the bits of R167. -/
  kindMask : BitVec 6
  flow : Bool
  deriving DecidableEq, Repr

/-- The causes of a discard (R139). -/
inductive DiscardCause where
  | noise
  | gap
  | length
  | check
  | overrun
  deriving DecidableEq, Repr

/-- The receiver's state, with the frame under assembly (R135 to R138): the length byte's value and
the bytes of kind, tag, body and check stored so far, in order of arrival. -/
inductive Receiver where
  | hunting
  | awaitingLength
  | collecting (length : Nat) (stored : List Byte)
  deriving DecidableEq, Repr

/-- The gap timer (R136), its times in ticks. It measures from the end of a byte of the frame to the start of
the next. -/
inductive GapTimer where
  | stopped
  | running (left : Nat)
  /-- It ran out on a character that had begun: it measures no more, and that character ends within
  `left`. -/
  | awaitingEnd (left : Nat)
  deriving DecidableEq, Repr

/-- A reply in the reply queue. `softReset` marks the OK reply to a Reset request, at whose end the
soft reset is taken (R145). -/
structure Reply where
  frame : Frame
  softReset : Bool
  deriving DecidableEq, Repr

/-- The frame the transmitter is sending, byte by byte as it stands on the line (R143). -/
structure Transmission where
  bytes : List Byte
  /-- Set for the OK reply to a Reset request (R145). -/
  softReset : Bool
  /-- The time until the stop bit of the last byte has been sent, in ticks. -/
  left : Nat
  deriving DecidableEq, Repr

/-- The Link Interface (chapter The Message Link). -/
structure Link where
  receiver : Receiver
  gapTimer : GapTimer
  /-- Oldest first (R138). -/
  receiveBuffer : List Frame
  /-- Oldest first (R143). -/
  replyQueue : List Reply
  /-- `none` while the transmitter is free (R143). -/
  sending : Option Transmission
  tally : Nat
  lastCause : Option DiscardCause
  rate : LinkRate
  /-- Set from the taking of a Reset request to its soft reset: no request is taken (R145). -/
  resetPending : Bool
  deriving DecidableEq, Repr

/-- The input lines whose level an event may have to read later. -/
structure Pins where
  /-- The electrical level of each feed's fault input (R73, R84). -/
  faultInput : Vector Level 4
  /-- The reset input, active low (R174). -/
  resetInput : Level
  /-- Whether the supply is established, power-up having completed (R177). -/
  supplyUp : Bool
  deriving DecidableEq, Repr

/-- Everything the GJ24 holds, the lines it reads, the model's clock and the waiting commands. -/
structure State where
  districts : Vector District 24
  nextIncident : Nat
  incidentWrap : Nat
  feeds : Vector Feed 4
  rotation : DistrictNo
  groupModes : Vector GroupMode 8
  beats : BeatGenerator
  bank : CounterBank
  lines : Vector StatusLine 8
  notices : NoticeQueue
  link : Link
  pins : Pins
  /-- The model's own: real time, in ticks (log entry 2). -/
  now : Nat
  /-- The model's own: how many expiries time has brought, and so which value of `Config.choice`
  orders the next (log entry 3). -/
  choices : Nat
  /-- The commands that wait, first in first out. -/
  pending : List Instr
  deriving DecidableEq, Repr

/-- Why a step could stop. It has no constructor: the manual gives every event an effect in every state
of the part (or says that the event then changes nothing), so no step of the model ends in a fault. -/
inductive Fault where
  deriving DecidableEq, Repr

/-- Why a step could be refused. -/
inductive Refusal where
  /-- Raised by `exec` alone, for a command that has no meaning yet; safe, since nothing is claimed of
  it. Every command has its meaning, so no arm raises it. -/
  | notModelled (mnemonic : String)
  deriving DecidableEq, Repr

/-! ### Values after a hard reset -/

/-- The defaults of R2. -/
def DistrictConfig.default : DistrictConfig where
  feed := 0
  kind := .plain
  group := none
  parent := none
  priority := 8
  tripThreshold := 300
  tripLevel := 2000
  drain := 20
  hardLimit := 1200
  settleAllowance := 400
  flipLevel := 0
  guardLength := 50
  settleTime := 100
  provingTime := 20
  retryBudget := 5
  backoffBase := 25
  backoffCap := 400
  declaredClaim := 20
  learnPeak := true

/-- A district after a hard reset (R19, R23, R24, R25). -/
def District.initial : District where
  config := .default
  state := .off
  switchClosed := false
  polarity := .normal
  timerPhase := .idle
  timerLeft := 0
  attemptsLeft := 0
  backoffStep := 0
  incident := 0
  incidentOpen := false
  holdMark := false
  feedLossMark := false
  heldClaim := none
  observedPeak := none
  lastTripCause := none
  lastSample := 0
  overRange := false
  peakInSettle := 0
  accumulator := 0
  flipArmed := false
  guardRun := 0

/-- A feed after a hard reset whose line is released (R68, R84). -/
def Feed.initial : Feed where
  allowance := 50
  launchWidth := 2
  faultLevel := .activeLow
  resumeDelay := 50
  state := .normal
  resumeTimer := none
  lineLevel := .released
  heldSum := 0

/-- The Beat Generator while the reset input is held active: its interval timer does not run until the
reset ends (R113). -/
def BeatGenerator.initial : BeatGenerator where
  mode := .internal
  interval := 200
  spacing := 20
  intervalTimer := none
  lastBeat := none
  pulseTimer := none

/-- A counter after a hard reset (R114). -/
def Counter.initial : Counter where
  value := 0
  half := false
  full := false

/-- The Counter Bank after a hard reset (R124). -/
def CounterBank.initial : CounterBank where
  counters := tabulate fun _ => .initial
  mode := .wrap
  noticeEnable := false

/-- A line record after either reset (R132). -/
def StatusLine.initial : StatusLine where
  source := .constantLow
  invert := false
  level := .low

/-- The Notice Queue after a hard reset (R168). -/
def NoticeQueue.initial : NoticeQueue where
  entries := []
  lost := false
  kindMask := 0
  flow := true

/-- The Link Interface after a hard reset, at a given rate (R139, R146). -/
def Link.initial (rate : LinkRate) : Link where
  receiver := .hunting
  gapTimer := .stopped
  receiveBuffer := []
  replyQueue := []
  sending := none
  tally := 0
  lastCause := none
  rate := rate
  resetPending := false

/-- The machine at the moment a hard reset ends (R176), every feed's fault input high and the rate strap
choosing 57,600 bit/s (both DESIGN CHOICE, log entry 1). -/
def State.reset : State where
  districts := tabulate fun _ => .initial
  nextIncident := 1
  incidentWrap := 65535
  feeds := tabulate fun _ => .initial
  rotation := 23
  groupModes := tabulate fun _ => .asAvailable
  beats := { BeatGenerator.initial with intervalTimer := some (200 * Config.ticksPerMs) }
  bank := .initial
  lines := tabulate fun _ => .initial
  notices := .initial
  link := .initial .baud57600
  pins :=
    { faultInput := tabulate fun _ => .high
      resetInput := .high
      supplyUp := true }
  now := 0
  choices := 0
  pending := []

end Sys2Proof.Machine
end

