-- ==== Sys2Proof/Machine/Ops.lean ====
section
/-! DEFINITION. The named operations over the state that every meaning is written with: reading and
replacing the parts of the state, time, making a notice (R169, R170), incrementing a counter (R116, R117)
and returning held claims to their feeds (R71). -/

namespace Sys2Proof.Machine

/-! ### The parts of the state -/

/-- The 24 district numbers in ascending order. -/
def allDistricts : List DistrictNo := List.finRange 24

/-- The 4 feed numbers in ascending order. -/
def allFeeds : List FeedNo := List.finRange 4

/-- The record of district `d`. -/
def State.district (s : State) (d : DistrictNo) : District := s.districts[d.val]

/-- The record of feed `f`. -/
def State.feed (s : State) (f : FeedNo) : Feed := s.feeds[f.val]

/-- The counter of index `i`. -/
def State.counter (s : State) (i : CounterIx) : Counter := s.bank.counters[i.val]

/-- The mode of group `g`. -/
def State.groupMode (s : State) (g : GroupNo) : GroupMode := s.groupModes[g.val]

/-- The record of status output `n`. -/
def State.line (s : State) (n : LineNo) : StatusLine := s.lines[n.val]

/-- The state with the record of district `d` replaced. -/
def State.setDistrict (s : State) (d : DistrictNo) (x : District) : State :=
  { s with districts := s.districts.set d.val x }

/-- The state with every district record replaced, each from its own old one. -/
def State.mapDistricts (s : State) (g : DistrictNo → District → District) : State :=
  { s with districts := tabulate fun d => g d (s.district d) }

/-- The state with the record of feed `f` replaced. -/
def State.setFeed (s : State) (f : FeedNo) (x : Feed) : State :=
  { s with feeds := s.feeds.set f.val x }

/-- The state with every feed record replaced, each from its own old one. -/
def State.mapFeeds (s : State) (g : FeedNo → Feed → Feed) : State :=
  { s with feeds := tabulate fun f => g f (s.feed f) }

/-- The state with counter `i` replaced. -/
def State.setCounter (s : State) (i : CounterIx) (c : Counter) : State :=
  { s with bank := { s.bank with counters := s.bank.counters.set i.val c } }

/-- The state with the Notice Queue replaced. -/
def State.setNotices (s : State) (q : NoticeQueue) : State := { s with notices := q }

/-- The state with the Link Interface replaced. -/
def State.setLink (s : State) (l : Link) : State := { s with link := l }

/-- The state with the Beat Generator replaced. -/
def State.setBeats (s : State) (b : BeatGenerator) : State := { s with beats := b }

/-- The state with the incident numbering replaced. -/
def State.setNumbering (s : State) (next wrap : Nat) : State :=
  { s with nextIncident := next, incidentWrap := wrap }

/-- The part is held in hard reset: by the reset input (R175), or because its supply is not established
(R177). -/
def State.held (s : State) : Bool := !s.pins.supplyUp || s.pins.resetInput == .low

/-! ### Time -/

/-- A time in milliseconds, in ticks. -/
def msTicks (ms : Nat) : Nat := ms * Config.ticksPerMs

/-- A remaining time rounded up to a whole millisecond (R14, R85). -/
def wholeMs (ticks : Nat) : Nat := (ticks + (Config.ticksPerMs - 1)) / Config.ticksPerMs

/-! ### Notices -/

/-- The kind of a notice (R169). -/
def noticeKind : Notice → NoticeKind
  | .trip .. => .trip
  | .flip .. => .flip
  | .launch .. => .launch
  | .proven .. => .proven
  | .feed .. => .feed
  | .counter .. => .counter

/-- The bit of a notice kind in the kind mask (R167). -/
def maskBit : NoticeKind → Nat
  | .trip => 0
  | .flip => 1
  | .launch => 2
  | .proven => 3
  | .feed => 4
  | .counter => 5

/-- Entry of a notice at the queue: at the back with the lost mark as its header bit, or dropped where 48
are held (R170). -/
def enterQueue (n : Notice) (q : NoticeQueue) : NoticeQueue :=
  if q.entries.length < Config.noticeCapacity then
    { q with entries := q.entries ++ [⟨n, q.lost⟩], lost := false }
  else { q with lost := true }

/-- Making a notice: it is handed to the queue only if its kind is enabled (R169). -/
def makeNotice (n : Notice) (s : State) : State :=
  if s.notices.kindMask.getLsbD (maskBit (noticeKind n)) then s.setNotices (enterQueue n s.notices)
  else s

/-- The queue after a notice is handed or not, as the kind mask says (R169). -/
def noticesAfter (n : Notice) (q : NoticeQueue) : NoticeQueue :=
  if q.kindMask.getLsbD (maskBit (noticeKind n)) then enterQueue n q else q

/-- The queue after several notices, handed one after the other (R169). -/
def handAll (made : List Notice) (q : NoticeQueue) : NoticeQueue :=
  made.foldl (fun q n => noticesAfter n q) q

/-! ### Counters -/

/-- The five counters of a district (R114). -/
inductive DistrictCounter where
  | trips
  | hardTrips
  | flips
  | launches
  | lockouts
  deriving DecidableEq, Repr

/-- The two counters of a feed (R114). -/
inductive FeedCounter where
  | feedFaults
  | budgetWaits
  deriving DecidableEq, Repr

/-- The kind number of a district counter (R114). -/
def districtKindNumber : DistrictCounter → Fin 5
  | .trips => 0
  | .hardTrips => 1
  | .flips => 2
  | .launches => 3
  | .lockouts => 4

/-- The kind number of a feed counter (R114). -/
def feedKindNumber : FeedCounter → Fin 2
  | .feedFaults => 0
  | .budgetWaits => 1

/-- The index of a district counter: the district number × 5 + the kind number (R114). -/
def districtCounter (d : DistrictNo) (k : DistrictCounter) : CounterIx :=
  ⟨d.val * 5 + (districtKindNumber k).val, by omega⟩

/-- The index of a feed counter: 120 + the feed number × 2 + the kind number (R114). -/
def feedCounter (f : FeedNo) (k : FeedCounter) : CounterIx :=
  ⟨120 + f.val * 2 + (feedKindNumber k).val, by omega⟩

/-- One increment: the counter after it, and the attention mark it sets, if it sets one (R116, R117). -/
def countUp (mode : CounterMode) (c : Counter) : Counter × Option AttentionMark :=
  if c.value = Config.counterTop then
    match mode with
    | .wrap => ({ value := 0, half := false, full := true }, some .full)
    | .stop => (c, none)
  else if c.value + 1 = Config.counterTop then ({ c with value := c.value + 1, full := true }, some .full)
  else if c.value + 1 = 32768 then ({ c with value := c.value + 1, half := true }, some .half)
  else ({ c with value := c.value + 1 }, none)

/-- An increment at the Counter Bank: the counter moves, and a mark it sets hands a Counter notice while
the counter-notice enable is on (R119). -/
def increment (i : CounterIx) (s : State) : State :=
  match countUp s.bank.mode (s.counter i) with
  | (c, none) => s.setCounter i c
  | (c, some mark) =>
    if s.bank.noticeEnable then makeNotice (.counter i mark) (s.setCounter i c)
    else s.setCounter i c

/-- The notices that an increment of counter `i` hands, oldest first (R119). -/
def countNotices (s : State) (i : CounterIx) : List Notice :=
  match (countUp s.bank.mode (s.counter i)).2 with
  | some mark => if s.bank.noticeEnable then [.counter i mark] else []
  | none => []

/-! ### Claims -/

/-- The free budget of a feed (R68). -/
def freeBudget (x : Feed) : Nat := x.allowance - x.heldSum

/-- The claim of district `d` is removed and returned to its feed's free budget (R71). -/
def releaseClaim (d : DistrictNo) (s : State) : State :=
  let x := s.district d
  let f := x.config.feed
  (s.setFeed f { s.feed f with heldSum := (s.feed f).heldSum - x.heldClaim.getD 0 }).setDistrict d
    { x with heldClaim := none }

/-- The sum of the claims that the chosen members of feed `f` hold. -/
def claimSum (s : State) (chosen : District → Bool) (f : FeedNo) : Nat :=
  (allDistricts.map fun d =>
    if chosen (s.district d) && (s.district d).config.feed == f then (s.district d).heldClaim.getD 0
    else 0).sum

/-- One step over every chosen district together (R45, R75): each is changed by `change`, and the claims
they hold are returned to their feeds (R71). -/
def withdraw (chosen : District → Bool) (change : District → District) (s : State) : State :=
  (s.mapFeeds fun f x => { x with heldSum := x.heldSum - claimSum s chosen f }).mapDistricts
    fun _ x => if chosen x then change x else x

end Sys2Proof.Machine
end

