-- ==== Sys2Proof/Machine/Flags.lean ====
section
/-! DEFINITION. The conditions the part shows: the predicates of a district (R12), the fourteen status
sources (R126 to R128), and the levels of the status outputs, which follow them (R125, R129). The switch
drive and polarity outputs (R13) and the transmit line (R133) are read off the state here too. -/

namespace Sys2Proof.Machine

/-! ### The predicates of R12 -/

/-- A district is powered while its switch is closed (R12). -/
def powered (x : District) : Bool := x.switchClosed

/-- A district is energized while it is in Energized (R12). -/
def energized (x : District) : Bool := x.state == .energized

/-- A district is locked out while it is in Lockout (R12). -/
def lockedOut (x : District) : Bool := x.state == .lockout

/-- A district is tripped while its incident open mark is set or it is in Lockout (R12). -/
def tripped (x : District) : Bool := x.incidentOpen || lockedOut x

/-- The states a restart attempt passes through, Settling and Proving. -/
def restarting (x : District) : Bool := x.state == .settling || x.state == .proving

/-- The states in which a district's switch is closed (R12). -/
def closedState (x : District) : Bool :=
  x.state == .settling || x.state == .proving || x.state == .energized

/-! ### The status sources -/

/-- At least one member of the feed is tripped (R127). -/
def feedAnyTripped (s : State) (f : FeedNo) : Bool :=
  allDistricts.any fun d => (s.district d).config.feed == f && tripped (s.district d)

/-- Every member of the feed that is not in Off is powered (R127). -/
def feedAllPowered (s : State) (f : FeedNo) : Bool :=
  allDistricts.all fun d =>
    !((s.district d).config.feed == f) || (s.district d).state == .off || powered (s.district d)

/-- At least one counter holds a half or a full mark (R118). -/
def counterAttention (s : State) : Bool := s.bank.counters.toList.any fun c => c.half || c.full

/-- The value of a status source (R126). -/
def sourceValue (s : State) : Source → Bool
  | .constantLow => false
  | .constantHigh => true
  | .districtEnergized d => energized (s.district d)
  | .districtPowered d => powered (s.district d)
  | .districtTripped d => tripped (s.district d)
  | .districtLockout d => lockedOut (s.district d)
  | .districtReversed d => (s.district d).polarity == .reversed
  | .feedAnyTripped f => feedAnyTripped s f
  | .feedAllPowered f => feedAllPowered s f
  | .feedSuspended f => (s.feed f).state == .suspended || (s.feed f).state == .resuming
  | .deviceAnyLockout => allDistricts.any fun d => lockedOut (s.district d)
  | .deviceNoticePending => !s.notices.entries.isEmpty
  | .deviceCounterAttention => counterAttention s
  | .beatPulse => s.beats.pulseTimer.isSome

/-! ### Levels -/

/-- High for true, low for false. -/
def levelOf (b : Bool) : Level := if b then .high else .low

/-- The level of a source's value with an invert mark applied (R125); low while the part is held in hard
reset (R132). -/
def lineLevel (s : State) (source : Source) (invert : Bool) : Level :=
  if s.held then .low else levelOf (sourceValue s source != invert)

/-- Every status output takes the level of its source as it stands now (R129). -/
def refreshLines (s : State) : State :=
  { s with lines := tabulate fun n =>
      { s.line n with level := lineLevel s (s.line n).source (s.line n).invert } }

/-! ### Output pins -/

/-- The switch-drive output of a district: high while its switch is closed, and low while the part is held
in hard reset (R13). -/
def switchDrive (s : State) (d : DistrictNo) : Level :=
  levelOf (!s.held && powered (s.district d))

/-- The polarity output of a district: high while its polarity is reversed, and low while the part is
held in hard reset (R13). -/
def polarityOutput (s : State) (d : DistrictNo) : Level :=
  levelOf (!s.held && (s.district d).polarity == .reversed)

/-- The status output `n`: driven at the level its record holds (R125). -/
def statusOutput (s : State) (n : LineNo) : Level := (s.line n).level

end Sys2Proof.Machine
end

