-- ==== Sys2Proof/Machine/Detector.lean ====
section
/-! DEFINITION. The Sense Unit and the Trip Detector, on one district record: recording a sample (R23,
R24), the five steps of its evaluation (R26 to R31), the flip (R33), and the observed peak and effective
claim (R40, R41). -/

namespace Sys2Proof.Machine

/-- What an evaluated sample decides. -/
inductive Verdict where
  /-- The sample only moves the detector's values. -/
  | pass
  /-- The district flips (R33). -/
  | flip
  /-- The district trips (R34). -/
  | trip (cause : TripCause)
  deriving DecidableEq, Repr

/-- The Sense Unit records a sample (R23) and, in Settling, raises the peak-in-settle (R24). -/
def recordSample (value : Nat) (overRange : Bool) (x : District) : District :=
  { x with
    lastSample := value
    overRange := overRange
    peakInSettle := if x.state = .settling then max x.peakInSettle value else x.peakInSettle }

/-- Teff (R26). -/
def effectiveThreshold (x : District) : Nat :=
  if x.state = .settling then min (x.config.tripThreshold + x.config.settleAllowance) 4095
  else x.config.tripThreshold

/-- The district flips in place of tripping: it is reversing, its flip is armed and its F is not 0
(R32). -/
def mayFlip (x : District) : Bool :=
  x.config.kind == .reversing && x.flipArmed && x.config.flipLevel != 0

/-- An excess sample (R28). -/
def excessStep (value : Nat) (x : District) : District :=
  { x with
    accumulator := min (x.accumulator + (value - effectiveThreshold x)) 65535
    guardRun := 0 }

/-- A no-excess sample (R29). -/
def drainStep (x : District) : District :=
  let run := min (x.guardRun + 1) 255
  { x with
    accumulator := x.accumulator - min x.accumulator x.config.drain
    guardRun := run
    flipArmed := x.flipArmed || (x.config.kind == .reversing && decide (x.config.guardLength ≤ run)) }

/-- The other polarity. -/
def invertPolarity : Polarity → Polarity
  | .normal => .reversed
  | .reversed => .normal

/-- What a flip writes in the record (R33). -/
def flipRecord (x : District) : District :=
  { x with
    polarity := invertPolarity x.polarity
    accumulator := 0
    flipArmed := false
    guardRun := 0 }

/-- The trip check (R31). -/
def tripCheck (x : District) : District × Verdict :=
  if x.config.tripLevel ≤ x.accumulator then (x, .trip .accumulated) else (x, .pass)

/-- The evaluation of one sample of a district whose switch is closed (R27 to R31): the record as the
detector leaves it, and what is decided. -/
def evaluateSample (value : Nat) (x : District) : District × Verdict :=
  if x.config.hardLimit ≤ value then
    if mayFlip x then (flipRecord x, .flip) else (x, .trip .hard)
  else if effectiveThreshold x < value then
    let y := excessStep value x
    if mayFlip y && decide (y.config.flipLevel ≤ y.accumulator) then (flipRecord y, .flip)
    else tripCheck y
  else tripCheck (drainStep x)

/-- The observed peak that a settle expiry writes: the peak-in-settle divided by 10, rounded up and
capped at 250 (R40). -/
def observedPeakOf (peakInSettle : Nat) : Nat := min ((peakInSettle + 9) / 10) 250

/-- The effective claim of a district on a feed of a given allowance (R41). -/
def effectiveClaim (allowance : Nat) (x : District) : Nat :=
  min (max x.config.declaredClaim (x.observedPeak.getD 0)) allowance

end Sys2Proof.Machine
end

