-- ==== Sys2Proof/Machine/Districts.lean ====
section
/-! DEFINITION. The District State Machine: launch (R46), the expiries (R47, R49, R56), the trip (R51 to
R53), backoff lengths (R55), incidents (R61, R62), and the moves that the requests make (R43 to R45, R57
to R60). -/

namespace Sys2Proof.Machine

/-! ### Incidents and backoff -/

/-- The number after `n` in the sequence 1 to the wrap (R16, R61). -/
def nextIncidentNumber (wrap n : Nat) : Nat := if wrap ≤ n then 1 else n + 1

/-- The incident number that an incident opened now takes (R61). -/
def incidentNumber (s : State) : Nat := if s.incidentWrap = 0 then 0 else s.nextIncident

/-- An incident of district `d` is opened (R61). -/
def openIncident (d : DistrictNo) (s : State) : State :=
  let x := { s.district d with incident := incidentNumber s, incidentOpen := true }
  if s.incidentWrap = 0 then s.setDistrict d x
  else (s.setNumbering (nextIncidentNumber s.incidentWrap s.nextIncident) s.incidentWrap).setDistrict d x

/-- A trip that finds no incident open opens one (R61). -/
def ensureIncident (d : DistrictNo) (s : State) : State :=
  if (s.district d).incidentOpen then s else openIncident d s

/-- What the closing of an incident writes (R62). -/
def closeIncident (x : District) : District := { x with incident := 0, incidentOpen := false }

/-- The length of a backoff of a given step, in ms (R55): the product is formed in full and then cut to
Bmax. -/
def backoffMs (c : DistrictConfig) (step : Nat) : Nat :=
  min (c.backoffBase * 2 ^ (step - 1)) c.backoffCap * 10

/-- Entry to Backoff with a given step (R52, R53). -/
def enterBackoff (step : Nat) (x : District) : District :=
  { x with
    state := .backoff
    backoffStep := step
    timerPhase := .backoff
    timerLeft := msTicks (backoffMs x.config step) }

/-! ### Trips -/

/-- What every trip writes in the record (R51), the switch opening and the timer stopping. -/
def tripRecord (cause : TripCause) (x : District) : District :=
  { x with
    lastTripCause := some cause
    switchClosed := false
    accumulator := 0
    timerPhase := .idle
    timerLeft := 0 }

/-- Where a trip takes the district: from Energized to Backoff with its attempts reloaded (R52), and from
an attempt to Backoff, or to Lockout where no attempt is left (R53). -/
def afterTrip (x : District) : District :=
  if energized x then enterBackoff 1 { x with attemptsLeft := x.config.retryBudget }
  else if x.attemptsLeft = 0 then { x with state := .lockout }
  else enterBackoff (min (x.backoffStep + 1) 15) x

/-- The counters a trip increments, in ascending index (R51, R53, R115). -/
def tripCounters (d : DistrictNo) (cause : TripCause) (entered : DistrictState) (s : State) : State :=
  let s := increment (districtCounter d .trips) s
  let s := if cause = .hard then increment (districtCounter d .hardTrips) s else s
  if entered = .lockout then increment (districtCounter d .lockouts) s else s

/-- A trip of district `d`, taken with its cause and the sample that caused it (R34, R51 to R53). -/
def tripDistrict (d : DistrictNo) (cause : TripCause) (value : Nat) (overRange : Bool) (s : State) :
    State :=
  let s := ensureIncident d (releaseClaim d s)
  let x := afterTrip (tripRecord cause (s.district d))
  let s := tripCounters d cause x.state (s.setDistrict d x)
  makeNotice (.trip d x.incident cause x.state value overRange) s

/-- The rest of a flip that the detector has written in the record: its counter and its notice (R33). -/
def flipDistrict (d : DistrictNo) (s : State) : State :=
  makeNotice (.flip d (s.district d).polarity) (increment (districtCounter d .flips) s)

/-- One sample event, taken whole (R21): recorded, and evaluated where the switch is closed (R26). -/
def takeSample (d : DistrictNo) (value : Nat) (overRange : Bool) (s : State) : State :=
  let x := recordSample value overRange (s.district d)
  if x.switchClosed then
    match evaluateSample value x with
    | (y, .pass) => s.setDistrict d y
    | (y, .flip) => flipDistrict d (s.setDistrict d y)
    | (y, .trip cause) => tripDistrict d cause value overRange (s.setDistrict d y)
  else s.setDistrict d x

/-! ### Launch and the expiries -/

/-- What a launch writes in the record (R36, R46). -/
def launchRecord (claim : Nat) (x : District) : District :=
  { x with
    state := .settling
    switchClosed := true
    timerPhase := .settle
    timerLeft := msTicks x.config.settleTime
    attemptsLeft := x.attemptsLeft - 1
    heldClaim := some claim
    feedLossMark := false
    peakInSettle := 0
    accumulator := 0
    flipArmed := true
    guardRun := 0 }

/-- A launch of district `d` with its effective claim (R46). -/
def launchDistrict (d : DistrictNo) (claim : Nat) (s : State) : State :=
  let x := s.district d
  let f := x.config.feed
  let s := (s.setFeed f { s.feed f with heldSum := (s.feed f).heldSum + claim }).setDistrict d
    (launchRecord claim x)
  makeNotice (.launch d x.incident claim x.feedLossMark) (increment (districtCounter d .launches) s)

/-- What a proving expiry writes in the record (R49, R62). -/
def provenRecord (x : District) : District :=
  closeIncident
    { x with
      state := .energized
      timerPhase := .idle
      timerLeft := 0
      attemptsLeft := x.config.retryBudget
      backoffStep := 0 }

/-- A proving expiry of district `d` (R49). -/
def proveDistrict (d : DistrictNo) (s : State) : State :=
  let x := s.district d
  makeNotice (.proven d x.incident (x.config.retryBudget - x.attemptsLeft))
    (s.setDistrict d (provenRecord x))

/-- The observed peak after a settle expiry (R40). -/
def learnedPeak (x : District) : Option Nat :=
  if x.config.learnPeak then some (observedPeakOf x.peakInSettle) else x.observedPeak

/-- What a settle expiry writes in the record as the district enters Proving (R47). -/
def provingRecord (x : District) : District :=
  { x with
    state := .proving
    observedPeak := learnedPeak x
    timerPhase := if x.config.provingTime = 0 then .idle else .proving
    timerLeft := msTicks (x.config.provingTime * 100) }

/-- A settle expiry of district `d` (R47): with a proving time of 0 the proving expiry is made in the same
step. -/
def settleDistrict (d : DistrictNo) (s : State) : State :=
  let s := releaseClaim d s
  let x := s.district d
  let s := s.setDistrict d (provingRecord x)
  if x.config.provingTime = 0 then proveDistrict d s else s

/-- A backoff expiry (R56). -/
def backoffOver (x : District) : District :=
  { x with state := .ready, timerPhase := .idle, timerLeft := 0 }

/-! ### What the requests and the feeds do to a district -/

/-- On from Off (R43). -/
def turnedOn (x : District) : District :=
  { x with
    state := .ready
    holdMark := false
    attemptsLeft := x.config.retryBudget
    backoffStep := 0
    incident := 0
    incidentOpen := false }

/-- Off (R44), but for the claim's return to its feed. -/
def turnedOff (x : District) : District :=
  { x with
    state := .off
    switchClosed := false
    accumulator := 0
    timerPhase := .idle
    timerLeft := 0
    heldClaim := none
    holdMark := false
    feedLossMark := false
    incident := 0
    incidentOpen := false }

/-- Clear from Lockout (R57). -/
def cleared (x : District) : District :=
  { x with state := .ready, attemptsLeft := x.config.retryBudget, backoffStep := 0 }

/-- The return of a powered district to Ready by a feed suspension (R75), the attempt refunded where it
was restarting (R76), but for the claim's return to its feed. -/
def returnedToReady (x : District) : District :=
  { x with
    state := .ready
    switchClosed := false
    accumulator := 0
    timerPhase := .idle
    timerLeft := 0
    heldClaim := none
    feedLossMark := true
    attemptsLeft :=
      if restarting x then min (x.attemptsLeft + 1) x.config.retryBudget else x.attemptsLeft }

/-- Off for one district (R44). -/
def turnOff (d : DistrictNo) (s : State) : State :=
  let s := releaseClaim d s
  s.setDistrict d (turnedOff (s.district d))

end Sys2Proof.Machine
end

