-- ==== Sys2Proof/Machine/Feeds.lean ====
section
/-! DEFINITION. The Feed Monitor: reading a fault input under a fault level, assertion and release (R74,
R75, R78), the resume expiry (R79), and an edge of the input (R73). -/

namespace Sys2Proof.Machine

/-- A fault input at an electrical level, interpreted under a fault level (section 4.3). -/
def readFault (fault : FaultLevel) (pin : Level) : LineLevel :=
  match fault, pin with
  | .activeLow, .low | .activeHigh, .high => .asserted
  | .activeLow, .high | .activeHigh, .low => .released

/-- The fault input of feed `f` as its record's fault level reads it now. -/
def faultLineOf (s : State) (f : FeedNo) : LineLevel :=
  readFault (s.feed f).faultLevel s.pins.faultInput[f.val]

/-- The members of feed `f` that an assertion returns to Ready (R75). -/
def isPoweredMember (f : FeedNo) (x : District) : Bool :=
  x.config.feed == f && closedState x

/-- An assertion of the fault input of feed `f` in Normal or Resuming (R74). -/
def assertFault (f : FeedNo) (s : State) : State :=
  let s := s.setFeed f { s.feed f with state := .suspended, resumeTimer := none }
  let s := increment (feedCounter f .feedFaults) s
  let s := makeNotice (.feed f .suspended) s
  withdraw (isPoweredMember f) returnedToReady s

/-- A release of the fault input of feed `f` in Suspended (R78). -/
def releaseFault (f : FeedNo) (s : State) : State :=
  s.setFeed f
    { s.feed f with
      state := .resuming
      resumeTimer := some (msTicks ((s.feed f).resumeDelay * 10)) }

/-- The Feed Monitor takes a line level of feed `f` that has changed: it records the level and acts on it
according to the feed's state (R73, R81). -/
def takeLineLevel (f : FeedNo) (level : LineLevel) (s : State) : State :=
  let s := s.setFeed f { s.feed f with lineLevel := level }
  match level, (s.feed f).state with
  | .asserted, .normal | .asserted, .resuming => assertFault f s
  | .released, .suspended => releaseFault f s
  | .asserted, .suspended | .released, .normal | .released, .resuming => s

/-- The fault input of feed `f` now stands at an electrical level. -/
def setFaultPin (f : FeedNo) (level : Level) (s : State) : State :=
  { s with pins := { s.pins with faultInput := s.pins.faultInput.set f.val level } }

/-- A resume expiry of feed `f` (R79). -/
def resumeFeed (f : FeedNo) (s : State) : State :=
  makeNotice (.feed f .normal)
    (s.setFeed f { s.feed f with state := .normal, resumeTimer := none })

/-- A feed's state and line level as a reset decides them from the fault input (R84). -/
def feedFromLine (fault : FaultLevel) (pin : Level) (x : Feed) : Feed :=
  { x with
    lineLevel := readFault fault pin
    state := match readFault fault pin with | .asserted => .suspended | .released => .normal }

end Sys2Proof.Machine
end

