-- ==== Sys2Proof/Machine/Frames.lean ====
section
/-! DEFINITION. Frames on the link: the request kinds with their codes and body lengths (R147), the
form of a frame and its check byte (R134), the characters of the line (R133), and the numbers that a
frame carries least significant byte first (R167). -/

namespace Sys2Proof.Machine

/-- The twenty-four request kinds (R147). -/
inductive RequestKind where
  | identify
  | configureDistrict
  | readDistrict
  | configureFeed
  | readFeed
  | configureGroup
  | configureBeat
  | singleBeat
  | on
  | off
  | allOff
  | clear
  | hold
  | release
  | setPolarity
  | readSummary
  | readCounters
  | readAndClearCounters
  | configureCounters
  | configureStatusLine
  | configureNotices
  | setIncidentWrap
  | linkStatus
  | reset
  deriving DecidableEq, Repr

/-- The kind byte of each request (R147). -/
def requestCode : RequestKind → Byte
  | .identify => 0x01
  | .configureDistrict => 0x02
  | .readDistrict => 0x03
  | .configureFeed => 0x04
  | .readFeed => 0x05
  | .configureGroup => 0x06
  | .configureBeat => 0x07
  | .singleBeat => 0x08
  | .on => 0x09
  | .off => 0x0A
  | .allOff => 0x0B
  | .clear => 0x0C
  | .hold => 0x0D
  | .release => 0x0E
  | .setPolarity => 0x0F
  | .readSummary => 0x10
  | .readCounters => 0x11
  | .readAndClearCounters => 0x12
  | .configureCounters => 0x13
  | .configureStatusLine => 0x14
  | .configureNotices => 0x15
  | .setIncidentWrap => 0x16
  | .linkStatus => 0x17
  | .reset => 0x18

/-- Every request kind, in the order of R147. -/
def requestKinds : List RequestKind :=
  [.identify, .configureDistrict, .readDistrict, .configureFeed, .readFeed, .configureGroup,
   .configureBeat, .singleBeat, .on, .off, .allOff, .clear, .hold, .release, .setPolarity,
   .readSummary, .readCounters, .readAndClearCounters, .configureCounters, .configureStatusLine,
   .configureNotices, .setIncidentWrap, .linkStatus, .reset]

/-- The request kind that a kind byte names, if it names one (R147). -/
def requestKindOf (kind : Byte) : Option RequestKind :=
  requestKinds.find? fun k => requestCode k == kind

/-- The one permitted body length of each kind, in bytes (R147). -/
def bodyLength : RequestKind → Nat
  | .configureDistrict => 28
  | .configureFeed => 6
  | .configureBeat => 5
  | .configureStatusLine => 4
  | .configureGroup | .setPolarity | .readCounters | .readAndClearCounters | .configureCounters
  | .configureNotices | .setIncidentWrap => 2
  | .readDistrict | .readFeed | .on | .off | .allOff | .clear | .hold | .release => 1
  | .identify | .singleBeat | .readSummary | .linkStatus | .reset => 0

/-! ### The form of a frame -/

/-- The start byte (section 9.2). -/
def startByte : Byte := 0xC5

/-- The sum modulo 256 of some bytes (R134). -/
def byteSum (bytes : List Byte) : Byte := bytes.foldl (· + ·) 0

/-- What the length byte counts: the kind, the tag and the body (R134). -/
def frameCore (f : Frame) : List Byte := f.kind :: f.tag :: f.body

/-- The length byte of a frame (R134). -/
def lengthByte (f : Frame) : Byte := BitVec.ofNat 8 (f.body.length + 2)

/-- The check byte: with it the sum from the length byte on is 0 (R134). -/
def checkByte (f : Frame) : Byte := -byteSum (lengthByte f :: frameCore f)

/-- A frame as its bytes stand on the line (R134). -/
def frameBytes (f : Frame) : List Byte :=
  startByte :: lengthByte f :: (frameCore f ++ [checkByte f])

/-- The frame whose kind, tag, body and check bytes are given (R134). -/
def frameOfStored (stored : List Byte) : Frame where
  kind := stored.getD 0 0
  tag := stored.getD 1 0
  body := (stored.drop 2).dropLast

/-- The kind byte of the reply to a frame of a given kind: 80h is added to a kind below 80h, and any
other kind is kept (R141). -/
def replyKind (kind : Byte) : Byte := kind ||| 0x80

/-! ### Numbers in a frame -/

/-- A number carried in one byte. -/
def byteOf (n : Nat) : Byte := BitVec.ofNat 8 n

/-- A number carried in two bytes, least significant byte first (R167). -/
def wordBytes (n : Nat) : List Byte := [BitVec.ofNat 8 n, BitVec.ofNat 8 (n / 256)]

/-- The byte at an offset of a body; the manual's offsets count from 1 (section 10.7). -/
def byteAt (body : List Byte) (offset : Nat) : Nat := (body.getD (offset - 1) 0).toNat

/-- The two-byte field that begins at an offset of a body (R167). -/
def wordAt (body : List Byte) (offset : Nat) : Nat :=
  byteAt body offset + 256 * byteAt body (offset + 1)

/-! ### Characters -/

/-- The levels of the ten bit times of one character: a low start bit, the data bits from the least
significant on, a high stop bit (R133). -/
def characterLevels (b : Byte) : List Level :=
  .low :: ((List.range 8).map fun i => if b.getLsbD i then Level.high else .low) ++ [.high]

/-- The time a run of bytes takes on the line, in ticks: ten bit times a character (R133). -/
def lineTicks (rate : LinkRate) (bytes : List Byte) : Nat :=
  bytes.length * 10 * Config.bitTicks rate

end Sys2Proof.Machine
end

