-- ==== Sys2Proof/Machine/Operands.lean ====
section
/-! DEFINITION. The operand forms of requests, replies and notices: the codes of the coded fields (R167),
how a request body's bytes are read into them (R148), clamping (R4, R69, R110), and the byte layouts that
replies and notices are formed in (section 10.7). -/

namespace Sys2Proof.Machine

/-- The byte that stands for none (R167). -/
def noneByte : Byte := 0xFF

/-! ### Numbers named by a byte -/

/-- A district number; 24 or more names none (R148). -/
def districtNo? (n : Nat) : Option DistrictNo := if h : n < 24 then some ⟨n, h⟩ else none

/-- A feed number; above 3 names none (R148). -/
def feedNo? (n : Nat) : Option FeedNo := if h : n < 4 then some ⟨n, h⟩ else none

/-- A status line number; above 7 names none (R130). -/
def lineNo? (n : Nat) : Option LineNo := if h : n < 8 then some ⟨n, h⟩ else none

/-- A group named by its number, 1 to 8 (R100). -/
def groupNo? (n : Nat) : Option GroupNo := if h : 1 ≤ n ∧ n ≤ 8 then some ⟨n - 1, by omega⟩ else none

/-- The group field of a configuration: 0 for no group, 1 to 8 for a group, and else refused (R2). -/
def groupField? (n : Nat) : Option (Option GroupNo) :=
  if n = 0 then some none else (groupNo? n).map some

/-- The parent field of a configuration: FFh for none, 0 to 23 for a district, and else refused (R10). -/
def parentField? (n : Nat) : Option (Option DistrictNo) :=
  if n = noneByte.toNat then some none else (districtNo? n).map some

/-! ### Codes of the coded fields (R167) -/

/-- Off and on. -/
def switchOf? : Nat → Option Bool
  | 0 => some false
  | 1 => some true
  | _ => none

/-- The kind of a district. -/
def kindOf? : Nat → Option DistrictKind
  | 0 => some .plain
  | 1 => some .reversing
  | _ => none

/-- A polarity. -/
def polarityOf? : Nat → Option Polarity
  | 0 => some .normal
  | 1 => some .reversed
  | _ => none

/-- A fault level. -/
def faultLevelOf? : Nat → Option FaultLevel
  | 0 => some .activeLow
  | 1 => some .activeHigh
  | _ => none

/-- A group mode. -/
def groupModeOf? : Nat → Option GroupMode
  | 0 => some .asAvailable
  | 1 => some .synchronized
  | _ => none

/-- A beat mode. -/
def beatModeOf? : Nat → Option BeatMode
  | 0 => some .internal
  | 1 => some .external
  | 2 => some .manual
  | _ => none

/-- A counter mode. -/
def counterModeOf? : Nat → Option CounterMode
  | 0 => some .wrap
  | 1 => some .stop
  | _ => none

/-- A status source: its kind code and the object byte, which only the district and feed kinds look at
(R130). -/
def sourceOf? (kind object : Nat) : Option Source :=
  match kind with
  | 0 => some .constantLow
  | 1 => some .constantHigh
  | 2 => (districtNo? object).map .districtEnergized
  | 3 => (districtNo? object).map .districtPowered
  | 4 => (districtNo? object).map .districtTripped
  | 5 => (districtNo? object).map .districtLockout
  | 6 => (districtNo? object).map .districtReversed
  | 7 => (feedNo? object).map .feedAnyTripped
  | 8 => (feedNo? object).map .feedAllPowered
  | 9 => (feedNo? object).map .feedSuspended
  | 10 => some .deviceAnyLockout
  | 11 => some .deviceNoticePending
  | 12 => some .deviceCounterAttention
  | 13 => some .beatPulse
  | _ => none

/-- The byte of an off or on, clear or set field. -/
def boolByte (b : Bool) : Byte := if b then 1 else 0

/-- The byte of a district kind. -/
def kindByte : DistrictKind → Byte
  | .plain => 0
  | .reversing => 1

/-- The byte of a district state. -/
def stateByte : DistrictState → Byte
  | .off => 0
  | .backoff => 1
  | .ready => 2
  | .settling => 3
  | .proving => 4
  | .energized => 5
  | .lockout => 6

/-- The byte of a polarity. -/
def polarityByte : Polarity → Byte
  | .normal => 0
  | .reversed => 1

/-- The byte of a timer phase. -/
def phaseByte : TimerPhase → Byte
  | .idle => 0
  | .settle => 1
  | .proving => 2
  | .backoff => 3

/-- The byte of a trip cause. -/
def causeByte : TripCause → Byte
  | .accumulated => 1
  | .hard => 2

/-- The byte of a last trip cause, none being 0. -/
def lastCauseByte : Option TripCause → Byte
  | none => 0
  | some c => causeByte c

/-- The byte of a feed state. -/
def feedStateByte : FeedState → Byte
  | .normal => 0
  | .suspended => 1
  | .resuming => 2

/-- The byte of a fault level. -/
def faultLevelByte : FaultLevel → Byte
  | .activeLow => 0
  | .activeHigh => 1

/-- The byte of a feed's line level. -/
def lineLevelByte : LineLevel → Byte
  | .released => 0
  | .asserted => 1

/-- The byte of a beat mode. -/
def beatModeByte : BeatMode → Byte
  | .internal => 0
  | .external => 1
  | .manual => 2

/-- The byte of an output level. -/
def levelByte : Level → Byte
  | .low => 0
  | .high => 1

/-- The kind code of a status source. -/
def sourceKindByte : Source → Byte
  | .constantLow => 0
  | .constantHigh => 1
  | .districtEnergized _ => 2
  | .districtPowered _ => 3
  | .districtTripped _ => 4
  | .districtLockout _ => 5
  | .districtReversed _ => 6
  | .feedAnyTripped _ => 7
  | .feedAllPowered _ => 8
  | .feedSuspended _ => 9
  | .deviceAnyLockout => 10
  | .deviceNoticePending => 11
  | .deviceCounterAttention => 12
  | .beatPulse => 13

/-- The object byte of a status source as applied, FFh for none (R159). -/
def sourceObjectByte : Source → Byte
  | .districtEnergized d | .districtPowered d | .districtTripped d | .districtLockout d
  | .districtReversed d => byteOf d.val
  | .feedAnyTripped f | .feedAllPowered f | .feedSuspended f => byteOf f.val
  | .constantLow | .constantHigh | .deviceAnyLockout | .deviceNoticePending
  | .deviceCounterAttention | .beatPulse => noneByte

/-- The byte of a discard cause, none being 0. -/
def discardByte : Option DiscardCause → Byte
  | none => 0
  | some .noise => 1
  | some .gap => 2
  | some .length => 3
  | some .check => 4
  | some .overrun => 5

/-- The link rate code (R149). -/
def rateByte : LinkRate → Byte
  | .baud57600 => 0
  | .baud230400 => 1

/-- The byte of a group field: 0 for no group (R2). -/
def groupByte : Option GroupNo → Byte
  | none => 0
  | some g => byteOf (g.val + 1)

/-- The byte of a parent field, FFh for none (R167). -/
def parentByte : Option DistrictNo → Byte
  | none => noneByte
  | some p => byteOf p.val

/-- The byte of a held claim or an observed peak, FFh for none (R167). -/
def unitsByte : Option Nat → Byte
  | none => noneByte
  | some n => byteOf n

/-- A byte of marks, from bit 0 upwards (R167). -/
def marksByte (marks : List Bool) : Byte :=
  byteOf (marks.foldr (fun b n => (if b then 1 else 0) + 2 * n) 0)

/-! ### Clamping -/

/-- The nearest value in a range (R4). -/
def clampTo (low high n : Nat) : Nat := min (max n low) high

/-- The coded and numeric fields of a Configure District body, its district number apart: the
configuration as requested, where the coded fields are legal (R3 check 2, the parent's chain apart). -/
def requestedConfig? (body : List Byte) : Option DistrictConfig := do
  let feed ← feedNo? (byteAt body 2)
  let kind ← kindOf? (byteAt body 3)
  let group ← groupField? (byteAt body 4)
  let parent ← parentField? (byteAt body 5)
  let learnPeak ← switchOf? (byteAt body 28)
  return {
    feed := feed
    kind := kind
    group := group
    parent := parent
    priority := byteAt body 6
    tripThreshold := wordAt body 7
    tripLevel := wordAt body 9
    drain := byteAt body 11
    hardLimit := wordAt body 12
    settleAllowance := wordAt body 14
    flipLevel := wordAt body 16
    guardLength := byteAt body 18
    settleTime := byteAt body 19
    provingTime := byteAt body 20
    retryBudget := byteAt body 21
    backoffBase := wordAt body 22
    backoffCap := wordAt body 24
    declaredClaim := wordAt body 26
    learnPeak := learnPeak }

/-- Every numeric field brought into range, H, F and Bmax against the applied T, L and B (R4). -/
def clampConfig (c : DistrictConfig) : DistrictConfig :=
  let t := clampTo 1 4095 c.tripThreshold
  let l := clampTo 1 65535 c.tripLevel
  let b := clampTo 1 1000 c.backoffBase
  { c with
    priority := clampTo 1 15 c.priority
    tripThreshold := t
    tripLevel := l
    drain := clampTo 0 255 c.drain
    hardLimit := max (clampTo 1 4095 c.hardLimit) t
    settleAllowance := clampTo 0 4095 c.settleAllowance
    flipLevel := clampTo 0 (l - 1) c.flipLevel
    guardLength := clampTo 1 255 c.guardLength
    settleTime := clampTo 1 255 c.settleTime
    provingTime := clampTo 0 255 c.provingTime
    retryBudget := clampTo 1 15 c.retryBudget
    backoffBase := b
    backoffCap := max (clampTo 1 6000 c.backoffCap) b
    declaredClaim := clampTo 0 250 c.declaredClaim }

/-! ### Layouts -/

/-- A district's configuration as Configure District carries it, 28 bytes (section 10.7). -/
def configBytes (d : DistrictNo) (c : DistrictConfig) : List Byte :=
  [byteOf d.val, byteOf c.feed.val, kindByte c.kind, groupByte c.group, parentByte c.parent,
    byteOf c.priority]
  ++ wordBytes c.tripThreshold ++ wordBytes c.tripLevel ++ [byteOf c.drain]
  ++ wordBytes c.hardLimit ++ wordBytes c.settleAllowance ++ wordBytes c.flipLevel
  ++ [byteOf c.guardLength, byteOf c.settleTime, byteOf c.provingTime, byteOf c.retryBudget]
  ++ wordBytes c.backoffBase ++ wordBytes c.backoffCap ++ wordBytes c.declaredClaim
  ++ [boolByte c.learnPeak]

/-- The kind byte of each notice (section 10.7). -/
def noticeCode : NoticeKind → Byte
  | .trip => 0x60
  | .flip => 0x61
  | .launch => 0x62
  | .proven => 0x63
  | .feed => 0x64
  | .counter => 0x65

/-- The body of a notice after its header (section 10.7). -/
def noticeFields : Notice → List Byte
  | .trip d incident cause entered sample overRange =>
    [byteOf d.val] ++ wordBytes incident ++ [causeByte cause, stateByte entered] ++ wordBytes sample
      ++ [boolByte overRange]
  | .flip d polarity => [byteOf d.val, polarityByte polarity]
  | .launch d incident claim feedLoss =>
    [byteOf d.val] ++ wordBytes incident ++ [byteOf claim, boolByte feedLoss]
  | .proven d incident attemptsUsed => [byteOf d.val] ++ wordBytes incident ++ [byteOf attemptsUsed]
  | .feed f state => [byteOf f.val, feedStateByte state]
  | .counter i mark => [byteOf i.val, match mark with | .half => 1 | .full => 2]

end Sys2Proof.Machine
end

