-- ==== Sys2Proof/Machine/Scheduler.lean ====
section
/-! DEFINITION. The Recovery Scheduler's decision at one beat (R87 to R99): candidates and the parent
gate, the walk order, the walk with its working values, the synchronized groups and the rotation
pointer. -/

namespace Sys2Proof.Machine

/-! ### Candidates (R88, R89) -/

/-- The synchronized group a district belongs to, if it belongs to one (R86). -/
def syncGroup (s : State) (x : District) : Option GroupNo :=
  match x.config.group with
  | some g => if s.groupMode g = .synchronized then some g else none
  | none => none

/-- The first three conditions of R88. -/
def readyToLaunch (s : State) (x : District) : Bool :=
  x.state == .ready && !x.holdMark && (s.feed x.config.feed).state == .normal

/-- The parent is in Proving or Energized (R89). -/
def parentUp (x : District) : Bool := x.state == .proving || x.state == .energized

/-- District `d` is a candidate (R88), its parent gate counted as open too where its parent is a candidate
of the same synchronized group (R89). `links` bounds the chain of parents followed. -/
def candidateWithin (s : State) : Nat → DistrictNo → Bool
  | 0, _ => false
  | links + 1, d =>
    let x := s.district d
    readyToLaunch s x &&
      match x.config.parent with
      | none => true
      | some p =>
        parentUp (s.district p) ||
          ((syncGroup s x).isSome && syncGroup s x == syncGroup s (s.district p) &&
            candidateWithin s links p)

/-- District `d` is a candidate at this beat (R88): a chain of parents runs through 24 districts at most
(R10). -/
def candidate (s : State) (d : DistrictNo) : Bool := candidateWithin s 24 d

/-! ### The walk order (R91) -/

/-- The cyclic order of district numbers that starts after the rotation pointer and ends with it (R91). -/
def cyclicOrder (pointer : DistrictNo) : List DistrictNo :=
  allDistricts.map fun k => pointer + 1 + k

/-- The priorities from the most urgent on. -/
def priorities : List Nat := List.range' 1 15

/-- The candidates of a beat in walk order: by priority, and in cyclic order within one (R91). -/
def walkOrder (s : State) : List DistrictNo :=
  priorities.flatMap fun p =>
    (cyclicOrder s.rotation).filter fun d => candidate s d && (s.district d).config.priority == p

/-! ### Working values (R90) -/

/-- The working values of one feed within one beat. -/
structure FeedWork where
  free : Nat
  count : Nat
  blocked : Bool
  deriving DecidableEq, Repr

/-- The walk under way: the state with the launches made so far, the feeds' working values, the groups
decided and the districts launched. -/
structure Walk where
  state : State
  work : Vector FeedWork 4
  decided : List GroupNo
  launched : List DistrictNo
  deriving DecidableEq, Repr

/-- The walk at the start of a beat (R90). -/
def startWalk (s : State) : Walk where
  state := s
  work := tabulate fun f => { free := freeBudget (s.feed f), count := 0, blocked := false }
  decided := []
  launched := []

/-- The effective claim of district `d` as the beat finds it (R41, R90). -/
def claimAt (s : State) (d : DistrictNo) : Nat :=
  effectiveClaim (s.feed (s.district d).config.feed).allowance (s.district d)

/-- District `d` is launched within the walk (R90, R98). `s` is the state the beat found. -/
def launchInWalk (s : State) (d : DistrictNo) (w : Walk) : Walk :=
  let f := (s.district d).config.feed
  let v := w.work[f.val]
  { w with
    state := launchDistrict d (claimAt s d) w.state
    work := w.work.set f.val { v with free := v.free - claimAt s d, count := v.count + 1 }
    launched := w.launched ++ [d] }

/-- The blocked mark of feed `f` is set (R93, R96). -/
def blockFeed (f : FeedNo) (w : Walk) : Walk :=
  { w with work := w.work.set f.val { w.work[f.val] with blocked := true } }

/-- A budget failure on feed `f`: its blocked mark is set and its Budget waits counter incremented
(R93). -/
def budgetFailure (f : FeedNo) (w : Walk) : Walk :=
  let w := blockFeed f w
  { w with state := increment (feedCounter f .budgetWaits) w.state }

/-- The decision on a candidate in no group or in an as-available group (R92). -/
def decideAlone (s : State) (d : DistrictNo) (w : Walk) : Walk :=
  let f := (s.district d).config.feed
  let v := w.work[f.val]
  if v.blocked then w
  else if (s.feed f).launchWidth ≤ v.count then w
  else if claimAt s d ≤ v.free then launchInWalk s d w
  else budgetFailure f w

/-! ### Synchronized groups (R94 to R97) -/

/-- The first test of R95 that a feed fails, if it fails one. -/
inductive FitFailure where
  | blocked
  | width
  | budget
  deriving DecidableEq, Repr

/-- District `d` makes its synchronized group `g` wait (R94). -/
def makesWait (s : State) (g : GroupNo) (d : DistrictNo) : Bool :=
  let x := s.district d
  x.config.group == some g && (x.state == .backoff || (x.state == .ready && !candidate s d))

/-- The members of group `g` that a launch of the group launches, in walk order (R95). -/
def groupMembers (s : State) (g : GroupNo) (order : List DistrictNo) : List DistrictNo :=
  order.filter fun d => (s.district d).config.group == some g

/-- The tests of R95 on feed `f` for the members `members`. -/
def groupFit (s : State) (members : List DistrictNo) (w : Walk) (f : FeedNo) : Option FitFailure :=
  let here := members.filter fun d => (s.district d).config.feed == f
  let v := w.work[f.val]
  if here.isEmpty then none
  else if v.blocked then some .blocked
  else if (s.feed f).launchWidth < v.count + here.length then some .width
  else if v.free < (here.map (claimAt s)).sum then some .budget
  else none

/-- The marks and counts of a group that did not fit, on one feed (R96). -/
def groupFailure (failure : FeedNo → Option FitFailure) (w : Walk) (f : FeedNo) : Walk :=
  match failure f with
  | none => w
  | some .budget => budgetFailure f w
  | some .blocked | some .width => blockFeed f w

/-- The decision on synchronized group `g` where the walk reaches it (R94 to R96). -/
def decideGroup (s : State) (order : List DistrictNo) (g : GroupNo) (w : Walk) : Walk :=
  let w := { w with decided := g :: w.decided }
  if allDistricts.any (makesWait s g) then w
  else
    let members := groupMembers s g order
    let failure := groupFit s members w
    if allFeeds.all fun f => (failure f).isNone then members.foldl (fun w d => launchInWalk s d w) w
    else allFeeds.foldl (groupFailure failure) w

/-- The walk reaches candidate `d` (R92, R94, R97). -/
def visit (s : State) (order : List DistrictNo) (w : Walk) (d : DistrictNo) : Walk :=
  match syncGroup s (s.district d) with
  | none => decideAlone s d w
  | some g => if w.decided.contains g then w else decideGroup s order g w

/-- The whole walk of a beat that finds state `s`. -/
def walk (s : State) : Walk := (walkOrder s).foldl (visit s (walkOrder s)) (startWalk s)

/-- One beat, taken whole (R87): the launches of the walk, and the rotation pointer at the launched
district that stands latest in walk order (R99). -/
def takeBeat (s : State) : State :=
  let w := walk s
  match ((walkOrder s).filter w.launched.contains).getLast? with
  | none => w.state
  | some d => { w.state with rotation := d }

/-- A beat is produced (R106): its time is recorded, the pulse timer started, the interval timer restarted
in Internal mode, and the beat handed to the scheduler. -/
def produceBeat (s : State) : State :=
  let b := s.beats
  takeBeat (s.setBeats
    { b with
      lastBeat := some s.now
      pulseTimer := some (msTicks 1)
      intervalTimer := if b.mode = .internal then some (msTicks b.interval) else b.intervalTimer })

/-- The minimum spacing has passed since the last beat, or there was none (R108). -/
def spacingPassed (s : State) : Bool :=
  match s.beats.lastBeat with
  | none => true
  | some t => decide (msTicks s.beats.spacing ≤ s.now - t)

end Sys2Proof.Machine
end

