-- ==== Sys2Proof/Machine/Requests.lean ====
section
/-! DEFINITION. The twenty-four requests at their owners: the checks in order, the effect, and the status
and contents of the reply (chapters 1 and 3 to 11 for the effects, chapter 10 for the forms). -/

namespace Sys2Proof.Machine

/-- The status codes (R141). -/
inductive Status where
  | ok
  | clamped
  | unchanged
  | badState
  | badArg
  | badLength
  | unknown
  deriving DecidableEq, Repr

/-- The value of the status byte (R141). -/
def statusByte : Status → Byte
  | .ok => 0x00
  | .clamped => 0x01
  | .unchanged => 0x02
  | .badState => 0x10
  | .badArg => 0x11
  | .badLength => 0x12
  | .unknown => 0x13

/-- What the owner of a request gives back: the reply's status and contents, and the state after it. -/
structure Answer where
  status : Status
  contents : List Byte
  state : State
  deriving DecidableEq, Repr

/-- A refusal: the status alone, and nothing changed (R142). -/
def refuse (status : Status) (s : State) : Answer := ⟨status, [], s⟩

/-- OK where something changed, UNCHANGED where nothing did. -/
def okIf (changed : Bool) : Status := if changed then .ok else .unchanged

/-- CLAMPED where a value was brought into range, OK where none was. -/
def clampedIf (clamped : Bool) : Status := if clamped then .clamped else .ok

/-! ### Reading the part -/

/-- Identify (R149). -/
def answerIdentify (_body : List Byte) (s : State) : Answer :=
  ⟨.ok, wordBytes 0x2418 ++ [1, 24, 4, 8, 8, 128, byteOf Config.noticeCapacity,
    byteOf Config.receiveCapacity, byteOf Config.replyCapacity, rateByte s.link.rate], s⟩

/-- The contents of a Read District reply after the configuration (R150, section 10.7). -/
def liveBytes (x : District) : List Byte :=
  [stateByte x.state,
    marksByte [x.switchClosed, x.polarity == .reversed, x.incidentOpen, x.holdMark, x.feedLossMark,
      x.overRange, x.flipArmed],
    phaseByte x.timerPhase]
  ++ wordBytes (wholeMs x.timerLeft) ++ [byteOf x.attemptsLeft, byteOf x.backoffStep]
  ++ wordBytes x.incident
  ++ [unitsByte x.heldClaim, unitsByte x.observedPeak, lastCauseByte x.lastTripCause]
  ++ wordBytes x.lastSample ++ wordBytes x.peakInSettle ++ wordBytes x.accumulator
  ++ [byteOf x.guardRun]

/-- Read District (R150). -/
def answerReadDistrict (body : List Byte) (s : State) : Answer :=
  match districtNo? (byteAt body 1) with
  | none => refuse .badArg s
  | some d => ⟨.ok, configBytes d (s.district d).config ++ liveBytes (s.district d), s⟩

/-- The remaining time of a timer that may be stopped, in whole milliseconds (R85). -/
def timerMs (t : Option Nat) : Nat := wholeMs (t.getD 0)

/-- Read Feed (R151). -/
def answerReadFeed (body : List Byte) (s : State) : Answer :=
  match feedNo? (byteAt body 1) with
  | none => refuse .badArg s
  | some f =>
    let x := s.feed f
    ⟨.ok, [byteOf f.val] ++ wordBytes x.allowance
      ++ [byteOf x.launchWidth, faultLevelByte x.faultLevel, byteOf x.resumeDelay,
        feedStateByte x.state, lineLevelByte x.lineLevel]
      ++ wordBytes (timerMs x.resumeTimer) ++ [byteOf x.heldSum, byteOf (freeBudget x)], s⟩

/-- Read Summary (R152). -/
def answerReadSummary (_body : List Byte) (s : State) : Answer :=
  ⟨.ok,
    (allDistricts.map fun d =>
        stateByte (s.district d).state ||| (if (s.district d).holdMark then 8 else 0))
      ++ (allFeeds.map fun f => feedStateByte (s.feed f).state) ++ [byteOf s.rotation.val]
      ++ [marksByte ((List.finRange 8).map fun g => s.groupMode g == .synchronized)], s⟩

/-! ### Configuring districts -/

/-- The walk along the parent links from `p` ends at a district whose parent is none without reaching
district `d` (R10). `links` bounds the walk. -/
def chainClear (s : State) (d : DistrictNo) : Nat → DistrictNo → Bool
  | 0, _ => false
  | links + 1, p =>
    p != d &&
      match (s.district p).config.parent with
      | none => true
      | some q => chainClear s d links q

/-- The requested parent is legal for district `d` (R10). -/
def parentLegal (s : State) (d : DistrictNo) : Option DistrictNo → Bool
  | none => true
  | some p => (s.district d).config.parent == some p || chainClear s d 24 p

/-- The request changes a field restricted to Off (R5). -/
def changesRestricted (old new : DistrictConfig) : Bool :=
  old.feed != new.feed || old.kind != new.kind || old.group != new.group || old.parent != new.parent

/-- The record with a new configuration, and what the change does to its live fields (R7, R8, R9). -/
def reconfigured (c : DistrictConfig) (x : District) : District :=
  { x with
    config := c
    attemptsLeft := min x.attemptsLeft c.retryBudget
    observedPeak :=
      if c.declaredClaim ≠ x.config.declaredClaim ∨ (x.config.learnPeak ∧ ¬ c.learnPeak) then none
      else x.observedPeak
    polarity := if x.config.kind = .reversing ∧ c.kind = .plain then .normal else x.polarity }

/-- Configure District (R3, R154). -/
def answerConfigureDistrict (body : List Byte) (s : State) : Answer :=
  match districtNo? (byteAt body 1), requestedConfig? body with
  | some d, some c =>
    let x := s.district d
    if !parentLegal s d c.parent then refuse .badArg s
    else if changesRestricted x.config c && x.state != .off then refuse .badState s
    else
      let applied := clampConfig c
      ⟨clampedIf (applied != c), configBytes d applied, s.setDistrict d (reconfigured applied x)⟩
  | _, _ => refuse .badArg s

/-! ### Configuring feeds -/

/-- The passing part of Configure Feed: the fields are set, and a changed fault level re-reads the line in
the same step (R69, R81). -/
def configureFeed (f : FeedNo) (allowance width : Nat) (fault : FaultLevel) (delay : Nat) (s : State) :
    State :=
  let x := s.feed f
  let t := s.setFeed f
    { x with allowance := allowance, launchWidth := width, faultLevel := fault, resumeDelay := delay }
  if x.faultLevel = fault then t else takeLineLevel f (faultLineOf t f) t

/-- Configure Feed (R69, R72, R155). -/
def answerConfigureFeed (body : List Byte) (s : State) : Answer :=
  match feedNo? (byteAt body 1), faultLevelOf? (byteAt body 5) with
  | some f, some fault =>
    let allowance := clampTo 1 250 (wordAt body 2)
    let width := clampTo 1 8 (byteAt body 4)
    let delay := clampTo 1 255 (byteAt body 6)
    if allowance < (s.feed f).heldSum then refuse .badState s
    else
      let t := configureFeed f allowance width fault delay s
      ⟨clampedIf (allowance != wordAt body 2 || width != byteAt body 4 || delay != byteAt body 6),
        [byteOf f.val] ++ wordBytes allowance
          ++ [byteOf width, faultLevelByte fault, byteOf delay, feedStateByte (t.feed f).state], t⟩
  | _, _ => refuse .badArg s

/-! ### Groups and beats -/

/-- Configure Group (R100, R156). -/
def answerConfigureGroup (body : List Byte) (s : State) : Answer :=
  match groupNo? (byteAt body 1), groupModeOf? (byteAt body 2) with
  | some g, some m =>
    ⟨okIf (s.groupMode g != m), [], { s with groupModes := s.groupModes.set g.val m }⟩
  | _, _ => refuse .badArg s

/-- The Beat Generator with a new configuration, the interval timing restarted where the mode or the
interval differs from that held (R110). -/
def reconfiguredBeats (mode : BeatMode) (interval spacing : Nat) (b : BeatGenerator) : BeatGenerator :=
  { b with
    mode := mode
    interval := interval
    spacing := spacing
    intervalTimer :=
      if mode = b.mode ∧ interval = b.interval then b.intervalTimer
      else if mode = .internal then some (msTicks interval) else none }

/-- Configure Beat (R110, R157). -/
def answerConfigureBeat (body : List Byte) (s : State) : Answer :=
  match beatModeOf? (byteAt body 1) with
  | none => refuse .badArg s
  | some mode =>
    let interval := clampTo 5 1000 (wordAt body 2)
    let spacing := clampTo 1 255 (wordAt body 4)
    ⟨clampedIf (interval != wordAt body 2 || spacing != wordAt body 4),
      [beatModeByte mode] ++ wordBytes interval ++ wordBytes spacing,
      s.setBeats (reconfiguredBeats mode interval spacing s.beats)⟩

/-- Single Beat (R111). -/
def answerSingleBeat (_body : List Byte) (s : State) : Answer := ⟨.ok, [], produceBeat s⟩

/-! ### Commands on a district -/

/-- On (R43). -/
def answerOn (body : List Byte) (s : State) : Answer :=
  match districtNo? (byteAt body 1) with
  | none => refuse .badArg s
  | some d =>
    if (s.district d).state = .off then ⟨.ok, [], s.setDistrict d (turnedOn (s.district d))⟩
    else ⟨.unchanged, [], s⟩

/-- Off (R44). -/
def answerOff (body : List Byte) (s : State) : Answer :=
  match districtNo? (byteAt body 1) with
  | none => refuse .badArg s
  | some d => if (s.district d).state = .off then ⟨.unchanged, [], s⟩ else ⟨.ok, [], turnOff d s⟩

/-- The district's feed is in the mask, and the district is not in Off (R45). -/
def inMask (mask : Nat) (x : District) : Bool := mask.testBit x.config.feed.val && x.state != .off

/-- All Off (R45, R163). -/
def answerAllOff (body : List Byte) (s : State) : Answer :=
  let mask := byteAt body 1
  if mask = 0 ∨ 16 ≤ mask then refuse .badArg s
  else
    ⟨okIf (allDistricts.any fun d => inMask mask (s.district d)), [],
      withdraw (inMask mask) turnedOff s⟩

/-- Clear (R57). -/
def answerClear (body : List Byte) (s : State) : Answer :=
  match districtNo? (byteAt body 1) with
  | none => refuse .badArg s
  | some d =>
    if (s.district d).state = .lockout then ⟨.ok, [], s.setDistrict d (cleared (s.district d))⟩
    else refuse .badState s

/-- Hold (R58). -/
def answerHold (body : List Byte) (s : State) : Answer :=
  match districtNo? (byteAt body 1) with
  | none => refuse .badArg s
  | some d =>
    if (s.district d).state = .off then refuse .badState s
    else
      ⟨okIf (!(s.district d).holdMark), [], s.setDistrict d { s.district d with holdMark := true }⟩

/-- Release (R59). -/
def answerRelease (body : List Byte) (s : State) : Answer :=
  match districtNo? (byteAt body 1) with
  | none => refuse .badArg s
  | some d =>
    ⟨okIf (s.district d).holdMark, [], s.setDistrict d { s.district d with holdMark := false }⟩

/-- Set Polarity (R60, R164). -/
def answerSetPolarity (body : List Byte) (s : State) : Answer :=
  match districtNo? (byteAt body 1), polarityOf? (byteAt body 2) with
  | some d, some p =>
    let x := s.district d
    if x.config.kind = .plain then refuse .badArg s
    else if x.switchClosed then refuse .badState s
    else ⟨okIf (x.polarity != p), [], s.setDistrict d { x with polarity := p }⟩
  | _, _ => refuse .badArg s

/-- Set Incident Wrap (R63, R161). -/
def answerSetIncidentWrap (body : List Byte) (s : State) : Answer :=
  ⟨.ok, [], s.setNumbering 1 (wordAt body 1)⟩

/-! ### Counters -/

/-- The indices of a run, or none where the run is not legal (R121). -/
def counterRun? (first count : Nat) : Option (List CounterIx) :=
  if 127 < first ∨ count = 0 ∨ 16 < count ∨ 128 < first + count then none
  else some ((List.finRange 128).filter fun i => decide (first ≤ i.val ∧ i.val < first + count))

/-- A counter in a reply: its value and a byte of its marks (R165). -/
def counterBytes (c : Counter) : List Byte := wordBytes c.value ++ [marksByte [c.half, c.full]]

/-- A change of every counter of a run together (R121, R122). -/
def changeRun (run : List CounterIx) (change : Counter → Counter) (s : State) : State :=
  let after : CounterIx → Counter := fun i =>
    if i ∈ run then change (s.counter i) else s.counter i
  { s with bank := { s.bank with counters := tabulate after } }

/-- A read of a run of counters, each changed by `change` as it is read (R165). -/
def answerCounterRead (change : Counter → Counter) (body : List Byte) (s : State) : Answer :=
  match counterRun? (byteAt body 1) (byteAt body 2) with
  | none => refuse .badArg s
  | some run =>
    ⟨.ok, [byteOf (byteAt body 1), byteOf (byteAt body 2)]
      ++ run.flatMap (fun i => counterBytes (s.counter i)), changeRun run change s⟩

/-- Read Counters (R121). -/
def answerReadCounters : List Byte → State → Answer :=
  answerCounterRead fun c => { c with half := false, full := false }

/-- Read-and-Clear Counters (R122). -/
def answerReadAndClearCounters : List Byte → State → Answer :=
  answerCounterRead fun _ => { value := 0, half := false, full := false }

/-- Configure Counters (R120, R158). -/
def answerConfigureCounters (body : List Byte) (s : State) : Answer :=
  match counterModeOf? (byteAt body 1), switchOf? (byteAt body 2) with
  | some mode, some enable =>
    ⟨okIf (s.bank.mode != mode || s.bank.noticeEnable != enable), [],
      { s with bank := { s.bank with mode := mode, noticeEnable := enable } }⟩
  | _, _ => refuse .badArg s

/-! ### Status lines, notices, link -/

/-- Configure Status Line (R130, R159). -/
def answerConfigureStatusLine (body : List Byte) (s : State) : Answer :=
  match lineNo? (byteAt body 1), sourceOf? (byteAt body 2) (byteAt body 3), switchOf? (byteAt body 4) with
  | some n, some source, some invert =>
    let level := lineLevel s source invert
    ⟨okIf ((s.line n).source != source || (s.line n).invert != invert),
      [byteOf n.val, sourceKindByte source, sourceObjectByte source, boolByte invert, levelByte level],
      { s with lines := s.lines.set n.val ⟨source, invert, level⟩ }⟩
  | _, _, _ => refuse .badArg s

/-- Configure Notices (R160, R173). -/
def answerConfigureNotices (body : List Byte) (s : State) : Answer :=
  let mask := byteAt body 1
  match switchOf? (byteAt body 2) with
  | none => refuse .badArg s
  | some flow =>
    if 64 ≤ mask then refuse .badArg s
    else
      let m := BitVec.ofNat 6 mask
      ⟨okIf (s.notices.kindMask != m || s.notices.flow != flow), [],
        s.setNotices { s.notices with kindMask := m, flow := flow }⟩

/-- Link Status (R139, R153). -/
def answerLinkStatus (_body : List Byte) (s : State) : Answer :=
  ⟨.ok, [byteOf s.link.tally, discardByte s.link.lastCause],
    s.setLink { s.link with tally := 0, lastCause := none }⟩

/-- Reset (R145, R166): no further request is taken until the soft reset has been made. -/
def answerReset (_body : List Byte) (s : State) : Answer :=
  ⟨.ok, [], s.setLink { s.link with resetPending := true }⟩

/-! ### The Link Interface's own checks -/

/-- A request at its owner. -/
def answerRequest : RequestKind → List Byte → State → Answer
  | .identify => answerIdentify
  | .configureDistrict => answerConfigureDistrict
  | .readDistrict => answerReadDistrict
  | .configureFeed => answerConfigureFeed
  | .readFeed => answerReadFeed
  | .configureGroup => answerConfigureGroup
  | .configureBeat => answerConfigureBeat
  | .singleBeat => answerSingleBeat
  | .on => answerOn
  | .off => answerOff
  | .allOff => answerAllOff
  | .clear => answerClear
  | .hold => answerHold
  | .release => answerRelease
  | .setPolarity => answerSetPolarity
  | .readSummary => answerReadSummary
  | .readCounters => answerReadCounters
  | .readAndClearCounters => answerReadAndClearCounters
  | .configureCounters => answerConfigureCounters
  | .configureStatusLine => answerConfigureStatusLine
  | .configureNotices => answerConfigureNotices
  | .setIncidentWrap => answerSetIncidentWrap
  | .linkStatus => answerLinkStatus
  | .reset => answerReset

/-- The answer to a frame taken as a request: UNKNOWN for a kind that is no request kind, BAD_LENGTH for
a body not of its kind's length, and else the owner's answer (R140). -/
def answer (f : Frame) (s : State) : Answer :=
  match requestKindOf f.kind with
  | none => refuse .unknown s
  | some k =>
    if f.body.length ≠ bodyLength k then refuse .badLength s else answerRequest k f.body s

end Sys2Proof.Machine
end

