-- ==== Sys2Proof/Machine/Link.lean ====
section
/-! DEFINITION. The Link Interface: reception (R135 to R138), discards (R139), the taking of requests
(R140), replies (R141), and the transmitter (R143, R144), with what closes a step (R129, R140, R144). -/

namespace Sys2Proof.Machine

/-! ### Discards -/

/-- A discard with its cause (R139). -/
def discard (cause : DiscardCause) (s : State) : State :=
  s.setLink { s.link with tally := min (s.link.tally + 1) 255, lastCause := some cause }

/-- The receiver returns to hunting with the gap timer stopped (R135). -/
def hunt (s : State) : State := s.setLink { s.link with receiver := .hunting, gapTimer := .stopped }

/-- A good frame reaches the receive buffer: it enters behind the frames there, or is discarded where 4
are held (R138). -/
def deliver (f : Frame) (s : State) : State :=
  if s.link.receiveBuffer.length < Config.receiveCapacity then
    s.setLink { s.link with receiveBuffer := s.link.receiveBuffer ++ [f] }
  else discard .overrun s

/-! ### Reception -/

/-- The gap timer's length (R136). -/
def gapTicks : Nat := msTicks 5

/-- The gap timer has run out, and no character that had begun before is still to end (R136). -/
def gapOver (g : GapTimer) : Bool := g == .running 0 || g == .awaitingEnd 0

/-- The receiver goes on inside a frame, the gap timer restarted (R136). -/
def awaitMore (r : Receiver) (s : State) : State :=
  s.setLink { s.link with receiver := r, gapTimer := .running gapTicks }

/-- The check byte has completed a frame of length byte `n` (R138). -/
def completeFrame (n : Nat) (stored : List Byte) (s : State) : State :=
  if byteSum (byteOf n :: stored) = 0 then deliver (frameOfStored stored) (hunt s)
  else discard .check (hunt s)

/-- The receiver takes a byte (R135, R137, R138). -/
def receive (b : Byte) (s : State) : State :=
  match s.link.receiver with
  | .hunting => if b = startByte then awaitMore .awaitingLength s else discard .noise s
  | .awaitingLength =>
    if 2 ≤ b.toNat ∧ b.toNat ≤ 62 then awaitMore (.collecting b.toNat []) s
    else discard .length (hunt s)
  | .collecting n stored =>
    if n + 1 ≤ stored.length + 1 then completeFrame n (stored ++ [b]) s
    else awaitMore (.collecting n (stored ++ [b])) s

/-! ### Taking requests -/

/-- The Link Interface can take a request: the receive buffer holds a frame, the reply queue has room
(R140), and no Reset request awaits its soft reset (R145). -/
def canTake (s : State) : Bool :=
  !s.link.receiveBuffer.isEmpty && decide (s.link.replyQueue.length < Config.replyCapacity) &&
    !s.link.resetPending

/-- A reply's place at the back of the reply queue (R140). -/
def queueReply (r : Reply) (s : State) : State :=
  s.setLink { s.link with replyQueue := s.link.replyQueue ++ [r] }

/-- The reply to a frame (R141): a refusal's body is the status byte alone. -/
def replyTo (f : Frame) (a : Answer) : Reply where
  frame :=
    { kind := replyKind f.kind
      tag := f.tag
      body := statusByte a.status :: a.contents }
  softReset := requestKindOf f.kind == some .reset && a.status == .ok

/-- A request is taken and answered in one step (R140). -/
def takeFrame (f : Frame) (s : State) : State :=
  let a := answer f s
  queueReply (replyTo f a) a.state

/-- The oldest frame leaves the receive buffer and is taken (R140). -/
def takeOldest (s : State) : State :=
  match s.link.receiveBuffer with
  | [] => s
  | f :: rest => takeFrame f (s.setLink { s.link with receiveBuffer := rest })

/-! ### The transmitter -/

/-- The frame of a notice as it is formed when its transmission begins (R172). -/
def noticeFrame (n : QueuedNotice) : Frame where
  kind := noticeCode (noticeKind n.notice)
  tag := 0
  body := boolByte n.lostBefore :: noticeFields n.notice

/-- The transmission of a frame that begins at the link's rate (R143). -/
def transmission (rate : LinkRate) (f : Frame) (softReset : Bool) : Transmission where
  bytes := frameBytes f
  softReset := softReset
  left := lineTicks rate (frameBytes f)

/-- A free transmitter takes the oldest reply, if there is one (R144, choice 1). -/
def sendReply (s : State) : State :=
  match s.link.sending, s.link.replyQueue with
  | none, r :: rest =>
    s.setLink
      { s.link with
        replyQueue := rest
        sending := some (transmission s.link.rate r.frame r.softReset) }
  | _, _ => s

/-- A free transmitter that finds no reply takes the oldest notice the queue offers (R144, choice 2). -/
def sendNotice (s : State) : State :=
  match s.link.sending, s.link.replyQueue, s.notices.entries with
  | none, [], n :: rest =>
    if s.notices.flow then
      (s.setNotices { s.notices with entries := rest }).setLink
        { s.link with sending := some (transmission s.link.rate (noticeFrame n) false) }
    else s
  | _, _, _ => s

/-- The transmitter's choice of the next frame (R144). -/
def chooseNext (s : State) : State := sendNotice (sendReply s)

/-- Requests are taken one at a time while they can be (R140); a reply that begins on the line frees a
place for the next (R143). `n` bounds how many are taken. -/
def takeRequests : Nat → State → State
  | 0, s => sendReply s
  | n + 1, s =>
    if canTake (sendReply s) then takeRequests n (takeOldest (sendReply s)) else sendReply s

/-! ### What closes a step -/

/-- An event outside the Link Interface closes with the transmitter's choice (R144) and the levels of the
status outputs (R129). -/
def closeEvent (s : State) : State := refreshLines (chooseNext s)

/-- An event of the Link Interface closes with the requests that can now be taken (R140), the
transmitter's choice (R144) and the levels of the status outputs (R129). -/
def closeLinkEvent (s : State) : State :=
  refreshLines (chooseNext (takeRequests Config.receiveCapacity s))

/-- An event that is taken only while the part is not held in hard reset (R175) and only where `taken`
says that it occurs; otherwise nothing changes. -/
def whenTaken (taken : Bool) (effect : State → State) (s : State) : State :=
  if !s.held && taken then effect s else s

/-- A good frame of the host arrives whole (R138) and requests are taken as they can be (R140). While the
part is held in hard reset the frame is lost (R175). -/
def requestArrives (f : Frame) (s : State) : State :=
  whenTaken true (fun s => closeLinkEvent (deliver f s)) s

/-- The level of the transmit line: the bit of the character being sent, and high while the transmitter
is free (R133). -/
def transmitLine (s : State) : Level :=
  match s.link.sending with
  | none => .high
  | some t =>
    let done := lineTicks s.link.rate t.bytes - t.left
    ((t.bytes.flatMap characterLevels).getD (done / Config.bitTicks s.link.rate) .high)

end Sys2Proof.Machine
end

