-- ==== Sys2Proof/Machine/Resets.lean ====
section
/-! DEFINITION. The resets: the hard-reset condition (R174), the end of a hard reset (R176), loss of
supply and power-up (R177), and the soft reset (R145, R166). -/

namespace Sys2Proof.Machine

/-- Every block at its hard-reset values (R174), the link rate as given. The input lines, the model's clock
and the waiting commands are not the part's own state and stay. -/
def hardResetBlocks (rate : LinkRate) (s : State) : State :=
  { s with
    districts := tabulate fun _ => .initial
    nextIncident := 1
    incidentWrap := 65535
    feeds := tabulate fun _ => .initial
    rotation := 23
    groupModes := tabulate fun _ => .asAvailable
    beats := .initial
    bank := .initial
    lines := tabulate fun _ => .initial
    notices := .initial
    link := .initial rate }

/-- The reset input stands at a level. -/
def setResetInput (level : Level) (s : State) : State :=
  { s with pins := { s.pins with resetInput := level } }

/-- The supply is established or lost. -/
def setSupply (up : Bool) (s : State) : State := { s with pins := { s.pins with supplyUp := up } }

/-- A falling edge of the reset input starts a hard reset (R174). The rate read at the last reset stays
until the strap is read again (R133). -/
def startHardReset (s : State) : State := hardResetBlocks s.link.rate (setResetInput .low s)

/-- The end of a hard reset (R176): the strap is read, each feed takes its line level and state from its
fault input under active-low, and the interval timer starts. -/
def endHardReset (strap : LinkRate) (s : State) : State :=
  let s := s.mapFeeds fun f x => feedFromLine .activeLow s.pins.faultInput[f.val] x
  let s := s.setBeats { s.beats with intervalTimer := some (msTicks s.beats.interval) }
  s.setLink { s.link with rate := strap, receiver := .hunting }

/-- The reset input returns high (R176): the reset ends, unless the supply is not established (R177). -/
def releaseReset (strap : LinkRate) (s : State) : State :=
  let t := setResetInput .high s
  if s.pins.supplyUp then endHardReset strap t else t

/-- Power-up completes (R177): the reset ends, unless the reset input is still low. -/
def completePowerUp (strap : LinkRate) (s : State) : State :=
  let t := setSupply true s
  if s.pins.resetInput = .low then t else endHardReset strap t

/-- The supply is lost (R177): the part keeps no state. -/
def loseSupply (s : State) : State := hardResetBlocks .baud57600 (setSupply false s)

/-- A district's soft-reset values (R20, R23, R24, R25). -/
def softResetDistrict (x : District) : District :=
  { x with
    state := .off
    switchClosed := false
    polarity := .normal
    timerPhase := .idle
    timerLeft := 0
    attemptsLeft := 0
    backoffStep := 0
    incident := 0
    incidentOpen := false
    holdMark := false
    feedLossMark := false
    heldClaim := none
    lastTripCause := none
    peakInSettle := 0
    accumulator := 0
    flipArmed := false
    guardRun := 0 }

/-- A feed's soft-reset values, its line read under the fault level held (R84). -/
def softResetFeed (pin : Level) (x : Feed) : Feed :=
  feedFromLine x.faultLevel pin { x with heldSum := 0, resumeTimer := none }

/-- The Beat Generator's soft-reset values (R113). -/
def softResetBeats (b : BeatGenerator) : BeatGenerator :=
  { b with
    lastBeat := none
    pulseTimer := none
    intervalTimer := if b.mode = .internal then some (msTicks b.interval) else none }

/-- The soft reset, one step in every block (R145, R166). -/
def softResetBlocks (s : State) : State :=
  { s with
    districts := tabulate fun d => softResetDistrict (s.district d)
    nextIncident := 1
    feeds := tabulate fun f => softResetFeed s.pins.faultInput[f.val] (s.feed f)
    rotation := 23
    beats := softResetBeats s.beats
    lines := tabulate fun _ => .initial
    notices := { s.notices with entries := [], lost := false }
    link := { s.link with receiveBuffer := [], resetPending := false } }

/-- The transmitter has sent the last byte of its frame and is free; at the end of the Reset reply the
soft reset is taken before any further choice (R145). -/
def endTransmission (s : State) : State :=
  let t := s.setLink { s.link with sending := none }
  match s.link.sending with
  | some x => if x.softReset then softResetBlocks t else t
  | none => t

/-- The stop bit of the last byte of the frame being sent has been sent (R143). -/
def transmissionOver (s : State) : Bool :=
  match s.link.sending with
  | some x => x.left == 0
  | none => false

/-- The transmitter is sending the reply at whose end the soft reset is taken (R145). -/
def sendingResetReply (s : State) : Bool :=
  match s.link.sending with
  | some x => x.softReset
  | none => false

end Sys2Proof.Machine
end

