-- ==== Sys2Proof/Machine/Time.lean ====
section
/-! DEFINITION. The passage of time: what a step does while no command waits. The expiry of a timer that has
reached 0 becomes the waiting command (R14, R79, R107, R112, R136, R143, R145); where no timer has, the
clock advances by one tick and every running timer runs down by one. DESIGN CHOICE (log entries 2 and 3). -/

namespace Sys2Proof.Machine

/-- A timer that may be stopped, one tick later. -/
def countDown (t : Option Nat) : Option Nat := t.map fun n => n - 1

/-- The expiry of a district's timer, where it has reached 0 (R14). -/
def districtDue (d : DistrictNo) (x : District) : List Instr :=
  if x.timerLeft = 0 then
    match x.timerPhase, x.state with
    | .settle, .settling => [.settleExpiry d]
    | .proving, .proving => [.provingExpiry d]
    | .backoff, .backoff => [.backoffExpiry d]
    | _, _ => []
  else []

/-- The expiry of a feed's resume timer, where it has reached 0 (R79). -/
def feedDue (f : FeedNo) (x : Feed) : List Instr :=
  if x.state = .resuming ∧ x.resumeTimer = some 0 then [.resumeExpiry f] else []

/-- The expiries of the Beat Generator's timers, where they have reached 0 (R107, R112). -/
def beatsDue (b : BeatGenerator) : List Instr :=
  (if b.mode = .internal ∧ b.intervalTimer = some 0 then [.intervalExpiry] else [])
  ++ (if b.pulseTimer = some 0 then [.pulseExpiry] else [])

/-- The gap expiry is due at tick `now`: the gap timer has reached 0 and the next byte has not begun, or that
byte has not come though its time is over (R136). -/
def gapDue (now : Nat) (g : GapTimer) : Bool :=
  gapOver g && (g == .awaitingEnd 0 || !Config.characterArriving now)

/-- The gap expiry, where it is due (R136), and the end of the transmission, where its last stop bit has been
sent (R143, R145). -/
def linkDue (now : Nat) (l : Link) : List Instr :=
  (if l.receiver ≠ .hunting ∧ gapDue now l.gapTimer then [.gapExpiry] else [])
  ++ match l.sending with
    | none => []
    | some t => if t.left = 0 then (if t.softReset then [.softReset] else [.transmissionEnd]) else []

/-- Every expiry that is due: its timer has reached 0, and it has not been taken. -/
def dueCommands (s : State) : List Instr :=
  (allDistricts.flatMap fun d => districtDue d (s.district d))
  ++ (allFeeds.flatMap fun f => feedDue f (s.feed f)) ++ beatsDue s.beats ++ linkDue s.now s.link

/-- The expiry that is taken next: where several are due, the `k`-th free choice says which. -/
def nextDue (k : Nat) : List Instr → Option Instr
  | [] => none
  | [c] => some c
  | due => due[Config.choice k % due.length]?

/-- A district one tick later: a running timer has one tick less. -/
def districtLater (x : District) : District := { x with timerLeft := x.timerLeft - 1 }

/-- The gap timer one tick later. Where it stood at 0 and time goes on, a character that began before is
arriving, and lasts ten bit times at most (R133, R136). -/
def gapLater (rate : LinkRate) : GapTimer → GapTimer
  | .stopped => .stopped
  | .running 0 => .awaitingEnd (10 * Config.bitTicks rate - 1)
  | .running (n + 1) => .running n
  | .awaitingEnd n => .awaitingEnd (n - 1)

/-- Every running timer has run down by one tick. -/
def runTimers (s : State) : State :=
  let t := (s.mapDistricts fun _ x => districtLater x).mapFeeds fun _ x =>
    { x with resumeTimer := countDown x.resumeTimer }
  let t := t.setBeats
    { s.beats with
      intervalTimer := countDown s.beats.intervalTimer
      pulseTimer := countDown s.beats.pulseTimer }
  t.setLink
    { s.link with
      gapTimer := gapLater s.link.rate s.link.gapTimer
      sending := s.link.sending.map fun x => { x with left := x.left - 1 } }

/-- What happens while no command waits. Where an expiry is due, it becomes the waiting command: one at a
time, so that an expiry whose timer an earlier one stops or restarts is not taken (R107). Where none is,
one tick passes. While the part is held in hard reset no timer runs (R174). -/
def passTime (s : State) : State :=
  if s.held then { s with now := s.now + 1 }
  else
    match nextDue s.choices (dueCommands s) with
    | some c => { s with choices := s.choices + 1, pending := s.pending ++ [c] }
    | none => { runTimers s with now := s.now + 1 }

end Sys2Proof.Machine
end

