-- ==== Sys2Proof/Machine/Events.lean ====
section
/-! DEFINITION. The meanings of the events: samples, expiries, line edges, bytes, the transmitter and the
resets. An event that the manual says does not occur in the state it finds (an expiry comes when its timer
has reached 0, and a stopped timer produces none; an edge is a change of level) changes nothing. -/

namespace Sys2Proof.Machine

/-- SAMPLE (R21). -/
def execSample (d : DistrictNo) (value : BitVec 12) (overRange : Bool) (s : State) :
    Host.Outcome State Fault Refusal :=
  .next (whenTaken true (fun s => closeEvent (takeSample d value.toNat overRange s)) s)

/-- SETTLE_EXPIRY (R47). -/
def execSettleExpiry (d : DistrictNo) (s : State) : Host.Outcome State Fault Refusal :=
  .next (whenTaken ((s.district d).state == .settling && (s.district d).timerPhase == .settle &&
      (s.district d).timerLeft == 0)
    (fun s => closeEvent (settleDistrict d s)) s)

/-- PROVING_EXPIRY (R49). -/
def execProvingExpiry (d : DistrictNo) (s : State) : Host.Outcome State Fault Refusal :=
  .next (whenTaken ((s.district d).state == .proving && (s.district d).timerPhase == .proving &&
      (s.district d).timerLeft == 0)
    (fun s => closeEvent (proveDistrict d s)) s)

/-- BACKOFF_EXPIRY (R56). -/
def execBackoffExpiry (d : DistrictNo) (s : State) : Host.Outcome State Fault Refusal :=
  .next (whenTaken ((s.district d).state == .backoff && (s.district d).timerPhase == .backoff &&
      (s.district d).timerLeft == 0)
    (fun s => closeEvent (s.setDistrict d (backoffOver (s.district d)))) s)

/-- INTERVAL_EXPIRY (R107). -/
def execIntervalExpiry (s : State) : Host.Outcome State Fault Refusal :=
  .next (whenTaken (s.beats.mode == .internal && s.beats.intervalTimer == some 0)
    (fun s => closeEvent (produceBeat s)) s)

/-- BEAT_INPUT_EDGE (R108). -/
def execBeatInputEdge (s : State) : Host.Outcome State Fault Refusal :=
  .next (whenTaken (s.beats.mode == .external && spacingPassed s)
    (fun s => closeEvent (produceBeat s)) s)

/-- PULSE_EXPIRY (R112). -/
def execPulseExpiry (s : State) : Host.Outcome State Fault Refusal :=
  .next (whenTaken (s.beats.pulseTimer == some 0)
    (fun s => closeEvent (s.setBeats { s.beats with pulseTimer := none })) s)

/-- FEED_FAULT_EDGE (R73). A level the line already stands at is no edge; while the part is held in hard
reset the line may change, but no edge is taken (R175). -/
def execFeedFaultEdge (f : FeedNo) (level : Level) (s : State) : Host.Outcome State Fault Refusal :=
  .next (if s.pins.faultInput[f.val] = level then s
    else whenTaken true (fun s => closeEvent (takeLineLevel f (faultLineOf s f) s))
      (setFaultPin f level s))

/-- RESUME_EXPIRY (R79). -/
def execResumeExpiry (f : FeedNo) (s : State) : Host.Outcome State Fault Refusal :=
  .next (whenTaken ((s.feed f).state == .resuming && (s.feed f).resumeTimer == some 0)
    (fun s => closeEvent (resumeFeed f s)) s)

/-- RECEIVE_BYTE (R135). A character whose stop bit is low counts with the value its data bits carried
(R133). -/
def execReceiveByte (data : Byte) (_stopBit : Level) (s : State) : Host.Outcome State Fault Refusal :=
  .next (whenTaken true (fun s => closeLinkEvent (receive data s)) s)

/-- GAP_EXPIRY (R136). -/
def execGapExpiry (s : State) : Host.Outcome State Fault Refusal :=
  .next (whenTaken (s.link.receiver != .hunting && gapOver s.link.gapTimer)
    (fun s => closeLinkEvent (discard .gap (hunt s))) s)

/-- TRANSMISSION_END (R144). -/
def execTransmissionEnd (s : State) : Host.Outcome State Fault Refusal :=
  .next (whenTaken (transmissionOver s) (fun s => closeLinkEvent (endTransmission s)) s)

/-- SOFT_RESET (R145): the end of the Reset reply's last byte. -/
def execSoftReset (s : State) : Host.Outcome State Fault Refusal :=
  .next (whenTaken (transmissionOver s && sendingResetReply s) (fun s => closeLinkEvent (endTransmission s)) s)

/-- HARD_RESET (R174): a change of the reset input from high to low. -/
def execHardReset (s : State) : Host.Outcome State Fault Refusal :=
  .next (if s.pins.resetInput = .low then s else startHardReset s)

/-- RESET_END (R176): a change of the reset input from low to high. -/
def execResetEnd (strap : LinkRate) (s : State) : Host.Outcome State Fault Refusal :=
  .next (if s.pins.resetInput = .high then s else releaseReset strap s)

/-- POWER_UP (R177): power-up completion after a loss of supply. -/
def execPowerUp (strap : LinkRate) (s : State) : Host.Outcome State Fault Refusal :=
  .next (if s.pins.supplyUp then s else completePowerUp strap s)

/-- LOSS_OF_SUPPLY (R177). -/
def execLossOfSupply (s : State) : Host.Outcome State Fault Refusal := .next (loseSupply s)

end Sys2Proof.Machine
end

