-- ==== Sys2Proof/Machine/RequestCommands.lean ====
section
/-! DEFINITION. The meanings of the request rows: the host's frame of that kind arrives whole and good
(R138), and is taken as a request as soon as one can be (R140). Each row has its own definition here, and
its effect and reply are its `answer…` definition in Machine/Requests.lean. -/

namespace Sys2Proof.Machine

/-- IDENTIFY (R149). -/
def execIdentify (tag : Byte) (body : List Byte) (s : State) : Host.Outcome State Fault Refusal :=
  .next (requestArrives ⟨requestCode .identify, tag, body⟩ s)

/-- CONFIGURE_DISTRICT (R3). -/
def execConfigureDistrict (tag : Byte) (body : List Byte) (s : State) : Host.Outcome State Fault Refusal :=
  .next (requestArrives ⟨requestCode .configureDistrict, tag, body⟩ s)

/-- READ_DISTRICT (R150). -/
def execReadDistrict (tag : Byte) (body : List Byte) (s : State) : Host.Outcome State Fault Refusal :=
  .next (requestArrives ⟨requestCode .readDistrict, tag, body⟩ s)

/-- CONFIGURE_FEED (R69). -/
def execConfigureFeed (tag : Byte) (body : List Byte) (s : State) : Host.Outcome State Fault Refusal :=
  .next (requestArrives ⟨requestCode .configureFeed, tag, body⟩ s)

/-- READ_FEED (R151). -/
def execReadFeed (tag : Byte) (body : List Byte) (s : State) : Host.Outcome State Fault Refusal :=
  .next (requestArrives ⟨requestCode .readFeed, tag, body⟩ s)

/-- CONFIGURE_GROUP (R100). -/
def execConfigureGroup (tag : Byte) (body : List Byte) (s : State) : Host.Outcome State Fault Refusal :=
  .next (requestArrives ⟨requestCode .configureGroup, tag, body⟩ s)

/-- CONFIGURE_BEAT (R110). -/
def execConfigureBeat (tag : Byte) (body : List Byte) (s : State) : Host.Outcome State Fault Refusal :=
  .next (requestArrives ⟨requestCode .configureBeat, tag, body⟩ s)

/-- SINGLE_BEAT (R111). -/
def execSingleBeat (tag : Byte) (body : List Byte) (s : State) : Host.Outcome State Fault Refusal :=
  .next (requestArrives ⟨requestCode .singleBeat, tag, body⟩ s)

/-- ON (R43). -/
def execOn (tag : Byte) (body : List Byte) (s : State) : Host.Outcome State Fault Refusal :=
  .next (requestArrives ⟨requestCode .on, tag, body⟩ s)

/-- OFF (R44). -/
def execOff (tag : Byte) (body : List Byte) (s : State) : Host.Outcome State Fault Refusal :=
  .next (requestArrives ⟨requestCode .off, tag, body⟩ s)

/-- ALL_OFF (R45). -/
def execAllOff (tag : Byte) (body : List Byte) (s : State) : Host.Outcome State Fault Refusal :=
  .next (requestArrives ⟨requestCode .allOff, tag, body⟩ s)

/-- CLEAR (R57). -/
def execClear (tag : Byte) (body : List Byte) (s : State) : Host.Outcome State Fault Refusal :=
  .next (requestArrives ⟨requestCode .clear, tag, body⟩ s)

/-- HOLD (R58). -/
def execHold (tag : Byte) (body : List Byte) (s : State) : Host.Outcome State Fault Refusal :=
  .next (requestArrives ⟨requestCode .hold, tag, body⟩ s)

/-- RELEASE (R59). -/
def execRelease (tag : Byte) (body : List Byte) (s : State) : Host.Outcome State Fault Refusal :=
  .next (requestArrives ⟨requestCode .release, tag, body⟩ s)

/-- SET_POLARITY (R60). -/
def execSetPolarity (tag : Byte) (body : List Byte) (s : State) : Host.Outcome State Fault Refusal :=
  .next (requestArrives ⟨requestCode .setPolarity, tag, body⟩ s)

/-- READ_SUMMARY (R152). -/
def execReadSummary (tag : Byte) (body : List Byte) (s : State) : Host.Outcome State Fault Refusal :=
  .next (requestArrives ⟨requestCode .readSummary, tag, body⟩ s)

/-- READ_COUNTERS (R121). -/
def execReadCounters (tag : Byte) (body : List Byte) (s : State) : Host.Outcome State Fault Refusal :=
  .next (requestArrives ⟨requestCode .readCounters, tag, body⟩ s)

/-- READ_AND_CLEAR_COUNTERS (R122). -/
def execReadAndClearCounters (tag : Byte) (body : List Byte) (s : State) : Host.Outcome State Fault Refusal :=
  .next (requestArrives ⟨requestCode .readAndClearCounters, tag, body⟩ s)

/-- CONFIGURE_COUNTERS (R120). -/
def execConfigureCounters (tag : Byte) (body : List Byte) (s : State) : Host.Outcome State Fault Refusal :=
  .next (requestArrives ⟨requestCode .configureCounters, tag, body⟩ s)

/-- CONFIGURE_STATUS_LINE (R130). -/
def execConfigureStatusLine (tag : Byte) (body : List Byte) (s : State) : Host.Outcome State Fault Refusal :=
  .next (requestArrives ⟨requestCode .configureStatusLine, tag, body⟩ s)

/-- CONFIGURE_NOTICES (R173). -/
def execConfigureNotices (tag : Byte) (body : List Byte) (s : State) : Host.Outcome State Fault Refusal :=
  .next (requestArrives ⟨requestCode .configureNotices, tag, body⟩ s)

/-- SET_INCIDENT_WRAP (R63). -/
def execSetIncidentWrap (tag : Byte) (body : List Byte) (s : State) : Host.Outcome State Fault Refusal :=
  .next (requestArrives ⟨requestCode .setIncidentWrap, tag, body⟩ s)

/-- LINK_STATUS (R153). -/
def execLinkStatus (tag : Byte) (body : List Byte) (s : State) : Host.Outcome State Fault Refusal :=
  .next (requestArrives ⟨requestCode .linkStatus, tag, body⟩ s)

/-- RESET (R166). -/
def execReset (tag : Byte) (body : List Byte) (s : State) : Host.Outcome State Fault Refusal :=
  .next (requestArrives ⟨requestCode .reset, tag, body⟩ s)

/-- UNKNOWN_KIND_REQUEST (R140). -/
def execUnknownKindRequest (kind tag : Byte) (body : List Byte) (s : State) :
    Host.Outcome State Fault Refusal :=
  .next (requestArrives ⟨kind, tag, body⟩ s)

end Sys2Proof.Machine
end

