-- ==== Sys2Proof/Machine/Dispatch.lean ====
section
/-! DEFINITION. The meaning of every command, one arm a constructor. -/

namespace Sys2Proof.Machine

def exec (i : Instr) (s : State) : Host.Outcome State Fault Refusal :=
  match i with
  | .sample d value overRange => Sys2Proof.Machine.execSample d value overRange s
  | .settleExpiry d => Sys2Proof.Machine.execSettleExpiry d s
  | .provingExpiry d => Sys2Proof.Machine.execProvingExpiry d s
  | .backoffExpiry d => Sys2Proof.Machine.execBackoffExpiry d s
  | .intervalExpiry => Sys2Proof.Machine.execIntervalExpiry s
  | .beatInputEdge => Sys2Proof.Machine.execBeatInputEdge s
  | .pulseExpiry => Sys2Proof.Machine.execPulseExpiry s
  | .feedFaultEdge f level => Sys2Proof.Machine.execFeedFaultEdge f level s
  | .resumeExpiry f => Sys2Proof.Machine.execResumeExpiry f s
  | .receiveByte data stopBit => Sys2Proof.Machine.execReceiveByte data stopBit s
  | .gapExpiry => Sys2Proof.Machine.execGapExpiry s
  | .transmissionEnd => Sys2Proof.Machine.execTransmissionEnd s
  | .softReset => Sys2Proof.Machine.execSoftReset s
  | .hardReset => Sys2Proof.Machine.execHardReset s
  | .resetEnd strap => Sys2Proof.Machine.execResetEnd strap s
  | .powerUp strap => Sys2Proof.Machine.execPowerUp strap s
  | .identify tag body => Sys2Proof.Machine.execIdentify tag body s
  | .configureDistrict tag body => Sys2Proof.Machine.execConfigureDistrict tag body s
  | .readDistrict tag body => Sys2Proof.Machine.execReadDistrict tag body s
  | .configureFeed tag body => Sys2Proof.Machine.execConfigureFeed tag body s
  | .readFeed tag body => Sys2Proof.Machine.execReadFeed tag body s
  | .configureGroup tag body => Sys2Proof.Machine.execConfigureGroup tag body s
  | .configureBeat tag body => Sys2Proof.Machine.execConfigureBeat tag body s
  | .singleBeat tag body => Sys2Proof.Machine.execSingleBeat tag body s
  | .on tag body => Sys2Proof.Machine.execOn tag body s
  | .off tag body => Sys2Proof.Machine.execOff tag body s
  | .allOff tag body => Sys2Proof.Machine.execAllOff tag body s
  | .clear tag body => Sys2Proof.Machine.execClear tag body s
  | .hold tag body => Sys2Proof.Machine.execHold tag body s
  | .release tag body => Sys2Proof.Machine.execRelease tag body s
  | .setPolarity tag body => Sys2Proof.Machine.execSetPolarity tag body s
  | .readSummary tag body => Sys2Proof.Machine.execReadSummary tag body s
  | .readCounters tag body => Sys2Proof.Machine.execReadCounters tag body s
  | .readAndClearCounters tag body => Sys2Proof.Machine.execReadAndClearCounters tag body s
  | .configureCounters tag body => Sys2Proof.Machine.execConfigureCounters tag body s
  | .configureStatusLine tag body => Sys2Proof.Machine.execConfigureStatusLine tag body s
  | .configureNotices tag body => Sys2Proof.Machine.execConfigureNotices tag body s
  | .setIncidentWrap tag body => Sys2Proof.Machine.execSetIncidentWrap tag body s
  | .linkStatus tag body => Sys2Proof.Machine.execLinkStatus tag body s
  | .reset tag body => Sys2Proof.Machine.execReset tag body s
  | .unknownKindRequest kind tag body => Sys2Proof.Machine.execUnknownKindRequest kind tag body s
  | .lossOfSupply => Sys2Proof.Machine.execLossOfSupply s

end Sys2Proof.Machine
end

