-- ==== Sys2Proof/WellFormed.lean ====
section
/-! DEFINITION. Which commands can come from outside at all: an over-range sample carries the value 4095
(R22), a frame's body holds at most 60 bytes (R134), and a frame of unknown kind is of no request kind
(R147). Every command that passes is a command the manual gives an effect or no effect; none is refused. -/

namespace Sys2Proof

/-- The longest body of a frame (R134). -/
def maxBody : Nat := 60

/-- The frame of a request command. -/
def Instr.frame? : Instr → Option Frame
  | .sample _ _ _ | .settleExpiry _ | .provingExpiry _ | .backoffExpiry _ | .intervalExpiry
  | .beatInputEdge | .pulseExpiry | .feedFaultEdge _ _ | .resumeExpiry _ | .receiveByte _ _
  | .gapExpiry | .transmissionEnd | .softReset | .hardReset | .resetEnd _ | .powerUp _
  | .lossOfSupply => none
  | .identify tag body => some ⟨Machine.requestCode .identify, tag, body⟩
  | .configureDistrict tag body => some ⟨Machine.requestCode .configureDistrict, tag, body⟩
  | .readDistrict tag body => some ⟨Machine.requestCode .readDistrict, tag, body⟩
  | .configureFeed tag body => some ⟨Machine.requestCode .configureFeed, tag, body⟩
  | .readFeed tag body => some ⟨Machine.requestCode .readFeed, tag, body⟩
  | .configureGroup tag body => some ⟨Machine.requestCode .configureGroup, tag, body⟩
  | .configureBeat tag body => some ⟨Machine.requestCode .configureBeat, tag, body⟩
  | .singleBeat tag body => some ⟨Machine.requestCode .singleBeat, tag, body⟩
  | .on tag body => some ⟨Machine.requestCode .on, tag, body⟩
  | .off tag body => some ⟨Machine.requestCode .off, tag, body⟩
  | .allOff tag body => some ⟨Machine.requestCode .allOff, tag, body⟩
  | .clear tag body => some ⟨Machine.requestCode .clear, tag, body⟩
  | .hold tag body => some ⟨Machine.requestCode .hold, tag, body⟩
  | .release tag body => some ⟨Machine.requestCode .release, tag, body⟩
  | .setPolarity tag body => some ⟨Machine.requestCode .setPolarity, tag, body⟩
  | .readSummary tag body => some ⟨Machine.requestCode .readSummary, tag, body⟩
  | .readCounters tag body => some ⟨Machine.requestCode .readCounters, tag, body⟩
  | .readAndClearCounters tag body => some ⟨Machine.requestCode .readAndClearCounters, tag, body⟩
  | .configureCounters tag body => some ⟨Machine.requestCode .configureCounters, tag, body⟩
  | .configureStatusLine tag body => some ⟨Machine.requestCode .configureStatusLine, tag, body⟩
  | .configureNotices tag body => some ⟨Machine.requestCode .configureNotices, tag, body⟩
  | .setIncidentWrap tag body => some ⟨Machine.requestCode .setIncidentWrap, tag, body⟩
  | .linkStatus tag body => some ⟨Machine.requestCode .linkStatus, tag, body⟩
  | .reset tag body => some ⟨Machine.requestCode .reset, tag, body⟩
  | .unknownKindRequest kind tag body => some ⟨kind, tag, body⟩

/-- An over-range sample carries the value 4095 (R22). -/
def Instr.sampleOk : Instr → Bool
  | .sample _ value overRange => !overRange || value == 4095
  | _ => true

/-- A request's body fits a frame (R134). -/
def Instr.bodyOk (i : Instr) : Bool :=
  match i.frame? with
  | some f => decide (f.body.length ≤ maxBody)
  | none => true

/-- The kind of a frame of unknown kind is no request kind (R147). -/
def Instr.unknownOk : Instr → Bool
  | .unknownKindRequest kind _ _ => (Machine.requestKindOf kind).isNone
  | _ => true

/-- The command can come from outside. -/
def Instr.wellFormed (i : Instr) : Bool := i.sampleOk && i.bodyOk && i.unknownOk

end Sys2Proof
end

