-- ==== Sys2Proof/Safety.lean ====
section
/-! DEFINITION. What the manual says holds at every moment, part by part, and the invariant that gathers
it: the terms in which statements about every step are made. Each is an abbreviation of a decidable
proposition, so that it can be checked of a given state. -/

namespace Sys2Proof.Machine

/-! ### Districts -/

/-- The ranges of the configuration fields, with T ≤ H, F ≤ L − 1 and B ≤ Bmax (R2, R4). -/
abbrev ConfigInRange (c : DistrictConfig) : Prop :=
  (1 ≤ c.priority ∧ c.priority ≤ 15) ∧ (1 ≤ c.tripThreshold ∧ c.tripThreshold ≤ c.hardLimit) ∧
  c.hardLimit ≤ 4095 ∧ (1 ≤ c.tripLevel ∧ c.tripLevel ≤ 65535) ∧ c.flipLevel ≤ c.tripLevel - 1 ∧
  c.drain ≤ 255 ∧ c.settleAllowance ≤ 4095 ∧ (1 ≤ c.guardLength ∧ c.guardLength ≤ 255) ∧
  (1 ≤ c.settleTime ∧ c.settleTime ≤ 255) ∧ c.provingTime ≤ 255 ∧
  (1 ≤ c.retryBudget ∧ c.retryBudget ≤ 15) ∧ (1 ≤ c.backoffBase ∧ c.backoffBase ≤ 1000) ∧
  c.backoffBase ≤ c.backoffCap ∧ c.backoffCap ≤ 6000 ∧ c.declaredClaim ≤ 250

/-- The timer phase that a state goes with (R12). -/
def phaseOf : DistrictState → TimerPhase
  | .settling => .settle
  | .proving => .proving
  | .backoff => .backoff
  | .off | .ready | .energized | .lockout => .idle

/-- The table of R12: switch, timer phase and held claim go with the state; an idle timer has no time
left, and no time is above 60,000 ms (R14). -/
abbrev StateTable (x : District) : Prop :=
  x.switchClosed = closedState x ∧ x.timerPhase = phaseOf x.state ∧
  x.heldClaim.isSome = (x.state == .settling) ∧ (x.timerPhase = .idle → x.timerLeft = 0) ∧
  x.timerLeft ≤ msTicks 60000

/-- Attempts left and backoff step (R15, R46): never above the retry budget, 0 in Lockout, and at least 1
in Ready, Backoff and Energized. -/
abbrev AttemptsInRange (x : District) : Prop :=
  x.attemptsLeft ≤ x.config.retryBudget ∧ (x.state = .lockout → x.attemptsLeft = 0) ∧
  (x.state = .ready ∨ x.state = .backoff ∨ x.state = .energized → 1 ≤ x.attemptsLeft) ∧
  x.backoffStep ≤ 15

/-- The incident of a district (R16, R49, R54): none open in Off and Energized, one open in Backoff and
Lockout, and number 0 while none is open. -/
abbrev IncidentOk (x : District) : Prop :=
  (x.incidentOpen = false → x.incident = 0) ∧ x.incident ≤ 65535 ∧
  (x.state = .off ∨ x.state = .energized → x.incidentOpen = false) ∧
  (x.state = .backoff ∨ x.state = .lockout → x.incidentOpen = true)

/-- In Off the hold mark and the feed-loss mark are clear (R16, R17). -/
abbrev OffMarksClear (x : District) : Prop :=
  x.state = .off → x.holdMark = false ∧ x.feedLossMark = false

/-- The detector's values (R25): A within 0 to 65535 and 0 while the switch is open, the guard run count
within 0 to 255. -/
abbrev DetectorInRange (x : District) : Prop :=
  x.accumulator ≤ 65535 ∧ (x.switchClosed = false → x.accumulator = 0) ∧ x.guardRun ≤ 255

/-- The Sense Unit's values (R23, R24). -/
abbrev SenseInRange (x : District) : Prop := x.lastSample ≤ 4095 ∧ x.peakInSettle ≤ 4095

/-- A plain district's polarity is normal (R13). -/
abbrev PlainIsNormal (x : District) : Prop := x.config.kind = .plain → x.polarity = .normal

/-- The held claim and the observed peak lie within 0 to 250 (R18), and the observed peak is none while
learn peak is off (R40). -/
abbrev ClaimsInRange (x : District) : Prop :=
  x.heldClaim.getD 0 ≤ 250 ∧ x.observedPeak.getD 0 ≤ 250 ∧
  (x.config.learnPeak = false → x.observedPeak = none)

/-- One district record at any moment. -/
abbrev DistrictOk (x : District) : Prop :=
  ConfigInRange x.config ∧ StateTable x ∧ AttemptsInRange x ∧ IncidentOk x ∧ OffMarksClear x ∧
  DetectorInRange x ∧ SenseInRange x ∧ PlainIsNormal x ∧ ClaimsInRange x

/-- Every walk along the parent links ends within 23 links (R10). -/
def parentChainEnds (s : State) : Nat → DistrictNo → Bool
  | 0, _ => false
  | links + 1, d =>
    match (s.district d).config.parent with
    | none => true
    | some p => parentChainEnds s links p

/-- The parent links never form a cycle (R10). -/
abbrev ParentsAcyclic (s : State) : Prop := ∀ d : DistrictNo, parentChainEnds s 24 d = true

/-- The incident numbering (R16). -/
abbrev NumberingOk (s : State) : Prop :=
  1 ≤ s.nextIncident ∧ s.nextIncident ≤ max 1 s.incidentWrap ∧ s.incidentWrap ≤ 65535

/-! ### Feeds -/

/-- The sum of the held claims of the members of a feed (R70). -/
def heldClaims (s : State) (f : FeedNo) : Nat := claimSum s (fun _ => true) f

/-- The held sum is the total of the held claims, and never exceeds the allowance (R70). -/
abbrev BudgetKept (s : State) : Prop :=
  ∀ f : FeedNo, (s.feed f).heldSum = heldClaims s f ∧ (s.feed f).heldSum ≤ (s.feed f).allowance

/-- No district whose feed is Suspended or Resuming is powered (R77). -/
abbrev DownFeedsUnpowered (s : State) : Prop :=
  ∀ d : DistrictNo, (s.feed (s.district d).config.feed).state ≠ .normal → closedState (s.district d) = false

/-- The configuration ranges of a feed, and the table of feed states of section 4.3 (R68). -/
abbrev FeedOk (x : Feed) : Prop :=
  (1 ≤ x.allowance ∧ x.allowance ≤ 250) ∧ (1 ≤ x.launchWidth ∧ x.launchWidth ≤ 8) ∧
  (1 ≤ x.resumeDelay ∧ x.resumeDelay ≤ 255) ∧
  x.resumeTimer.isSome = (x.state == .resuming) ∧ x.resumeTimer.getD 0 ≤ msTicks 2550 ∧
  (x.lineLevel = .asserted ↔ x.state = .suspended)

/-- The line level of every feed is its fault input as the fault level reads it (section 4.3), while the
part is not held in hard reset. -/
abbrev LineLevelsRead (s : State) : Prop :=
  s.held = false → ∀ f : FeedNo, (s.feed f).lineLevel = faultLineOf s f

/-! ### The other blocks -/

/-- The Beat Generator (R106): ranges, and the interval timer running exactly in Internal mode while the
part is not held in hard reset. -/
abbrev BeatsOk (s : State) : Prop :=
  (5 ≤ s.beats.interval ∧ s.beats.interval ≤ 1000) ∧ (1 ≤ s.beats.spacing ∧ s.beats.spacing ≤ 255) ∧
  s.beats.intervalTimer.getD 0 ≤ msTicks 1000 ∧ s.beats.pulseTimer.getD 0 ≤ msTicks 1 ∧
  (s.held = false → s.beats.intervalTimer.isSome = (s.beats.mode == .internal))

/-- Every counter lies within 0 to 65535 (R114). -/
abbrev CountersInRange (s : State) : Prop := ∀ i : CounterIx, (s.counter i).value ≤ 65535

/-- Every status output stands at the value of its source with the invert mark applied (R125). -/
abbrev LevelsFollow (s : State) : Prop :=
  ∀ n : LineNo, (s.line n).level = lineLevel s (s.line n).source (s.line n).invert

/-- The notice queue never holds more than 48 notices (R168), the receive buffer and the reply queue never
more than 4 (R138, R143), and the discard tally stays within 255 (R139). -/
abbrev QueuesBounded (s : State) : Prop :=
  s.notices.entries.length ≤ 48 ∧ s.link.receiveBuffer.length ≤ 4 ∧ s.link.replyQueue.length ≤ 4 ∧
  s.link.tally ≤ 255

/-- A frame under assembly has a legal length byte and is not complete (R137, R138). -/
def frameUnderWay : Receiver → Bool
  | .hunting | .awaitingLength => true
  | .collecting n stored => decide (2 ≤ n ∧ n ≤ 62 ∧ stored.length ≤ n)

/-- The time that the gap timer still has (R136). -/
def gapLeft : GapTimer → Nat
  | .stopped => 0
  | .running n | .awaitingEnd n => n

/-- The receiver (R135 to R137): the gap timer runs exactly inside a frame, and the frame under assembly
has a legal length byte and is not complete. -/
abbrev ReceiverOk (s : State) : Prop :=
  (s.link.gapTimer = .stopped ↔ s.link.receiver = .hunting) ∧ gapLeft s.link.gapTimer ≤ msTicks 5 ∧
  frameUnderWay s.link.receiver = true

/-- Nothing that could be sent or taken waits: a free transmitter finds no reply and no offered notice
(R144), and a waiting request finds the reply queue full or a Reset request awaiting its soft reset
(R140, R145). -/
abbrev LinkSettled (s : State) : Prop :=
  (s.link.sending = none →
    s.link.replyQueue = [] ∧ (s.notices.entries = [] ∨ s.notices.flow = false)) ∧
  (s.link.receiveBuffer = [] ∨ 4 ≤ s.link.replyQueue.length ∨ s.link.resetPending = true)

/-- The soft-reset flags of the frame being sent and of the replies that wait, in the order they go out. -/
def resetFlags (s : State) : List Bool :=
  s.link.sending.toList.map (·.softReset) ++ s.link.replyQueue.map (·.softReset)

/-- While a Reset request awaits its soft reset, its reply is the last frame to go out, and no other frame
leads to a soft reset (R145). -/
abbrev ResetReplyLast (s : State) : Prop :=
  (∀ b ∈ (resetFlags s).dropLast, b = false) ∧
  (resetFlags s).getLast?.getD false = s.link.resetPending

/-- While the part is held in hard reset every block stands at its hard-reset values (R174, R175). -/
abbrev HeldAtReset (s : State) : Prop := s.held = true → hardResetBlocks s.link.rate s = s

/-- What the manual says holds at every moment. -/
abbrev Inv (s : State) : Prop :=
  (∀ d : DistrictNo, DistrictOk (s.district d)) ∧ ParentsAcyclic s ∧ NumberingOk s ∧
  (∀ f : FeedNo, FeedOk (s.feed f)) ∧ BudgetKept s ∧ DownFeedsUnpowered s ∧ LineLevelsRead s ∧
  BeatsOk s ∧ CountersInRange s ∧ LevelsFollow s ∧ QueuesBounded s ∧ ReceiverOk s ∧ LinkSettled s ∧
  ResetReplyLast s ∧ HeldAtReset s

/-! ### How an event closes

The terms in which a statement gives the whole of a next state: what the event itself changes (`u`), the
replies it queues, the notices it hands, and the transmitter's choice and the status outputs after it. -/

/-- The Link Interface and the Notice Queue after the transmitter's choice (R143, R144): a frame under way
goes on; a free transmitter takes the oldest reply, and only where no reply waits the oldest notice, while
the flow mark is on. -/
def afterChoice (l : Link) (q : NoticeQueue) : Link × NoticeQueue :=
  match l.sending, l.replyQueue, q.entries with
  | some _, _, _ => (l, q)
  | none, r :: rest, _ =>
    ({ l with
        replyQueue := rest
        sending := some ⟨frameBytes r.frame, r.softReset, lineTicks l.rate (frameBytes r.frame)⟩ }, q)
  | none, [], n :: rest =>
    if q.flow then
      ({ l with
          sending := some ⟨frameBytes (noticeFrame n), false, lineTicks l.rate (frameBytes (noticeFrame n))⟩ },
        { q with entries := rest })
    else (l, q)
  | none, [], [] => (l, q)

/-- `t` is what `u` becomes where the step that made `u` also hands the notices `made`, oldest first, puts
`replies` at the back of the reply queue, and then closes: the transmitter makes its choice, the status
outputs follow their sources, and everything else stands as in `u`. -/
structure Closes (u : State) (replies : List Reply) (made : List Notice) (t : State) : Prop where
  districts : t.districts = u.districts
  nextIncident : t.nextIncident = u.nextIncident
  incidentWrap : t.incidentWrap = u.incidentWrap
  feeds : t.feeds = u.feeds
  rotation : t.rotation = u.rotation
  groupModes : t.groupModes = u.groupModes
  beats : t.beats = u.beats
  bank : t.bank = u.bank
  pins : t.pins = u.pins
  now : t.now = u.now
  choices : t.choices = u.choices
  pending : t.pending = u.pending
  sources : ∀ n : LineNo,
    (t.line n).source = (u.line n).source ∧ (t.line n).invert = (u.line n).invert
  levels : LevelsFollow t
  link :
    (t.link, t.notices) =
      afterChoice { u.link with replyQueue := u.link.replyQueue ++ replies } (handAll made u.notices)

/-- A good frame that arrives now is taken as a request in the same step (R140): the part is not held in
hard reset, nothing that could move waits, the reply queue has room and no Reset request awaits its soft
reset. -/
abbrev TakesAtOnce (s : State) : Prop :=
  s.held = false ∧ LinkSettled s ∧ s.link.replyQueue.length < 4 ∧ s.link.resetPending = false

/-- The request `i` completes: it changes what `u` shows, hands the notices `made`, and is answered with
the request's kind plus 80h, its tag, a status byte and the given contents (R140, R141). -/
def AnswersWith (i : Instr) (s u : State) (made : List Notice) (status : Byte) (contents : List Byte) :
    Prop :=
  ∃ f t, i.frame? = some f ∧ exec i s = .next t ∧
    Closes u [⟨⟨f.kind ||| 0x80, f.tag, status :: contents⟩, false⟩] made t

/-- The Counter Bank after one increment of each counter of `run`, whose indices are all different
(R116, R117). -/
def countedBank (s : State) (run : List CounterIx) : CounterBank :=
  { s.bank with
    counters := tabulate fun i =>
      if i ∈ run then (countUp s.bank.mode (s.counter i)).1 else s.counter i }

/-- The Counter notices that those increments hand, in their order (R119). -/
def runNotices (s : State) (run : List CounterIx) : List Notice := run.flatMap (countNotices s)

/-- The district `n` parent links above `d` (R10). -/
def ancestor (s : State) : Nat → DistrictNo → Option DistrictNo
  | 0, d => some d
  | n + 1, d => (ancestor s n d).bind fun p => (s.district p).config.parent

/-- The fields of a requested configuration as the bytes of a body can carry them (section 10.7). -/
abbrev FieldsFit (c : DistrictConfig) : Prop :=
  c.priority < 256 ∧ c.tripThreshold < 65536 ∧ c.tripLevel < 65536 ∧ c.drain < 256 ∧
  c.hardLimit < 65536 ∧ c.settleAllowance < 65536 ∧ c.flipLevel < 65536 ∧ c.guardLength < 256 ∧
  c.settleTime < 256 ∧ c.provingTime < 256 ∧ c.retryBudget < 256 ∧ c.backoffBase < 65536 ∧
  c.backoffCap < 65536 ∧ c.declaredClaim < 65536

/-- The commands of a list run one after the other, each on what the one before it left. -/
def runCommands : List Instr → State → Option State
  | [], s => some s
  | c :: rest, s =>
    match exec c s with
    | .next t => runCommands rest t
    | .fault _ | .refused _ => none

/-! ### What the events do, as statements name it -/

/-- What an assertion of the fault input of feed `f` does to the part (R74, R75, R76): the feed is Suspended
with its resume timer stopped, its Feed faults counter is incremented, and every powered member returns to
Ready with its feed-loss mark set, its claim returned, and its attempt refunded where it was restarting. -/
def feedAsserted (s : State) (f : FeedNo) : State :=
  let out (x : District) : Bool :=
    decide (x.config.feed = f) &&
      decide (x.state = .settling ∨ x.state = .proving ∨ x.state = .energized)
  { s with
    feeds := tabulate fun g =>
      if g = f then
        { s.feed f with
          state := .suspended, resumeTimer := none, lineLevel := .asserted
          heldSum := (s.feed f).heldSum - claimSum s out f }
      else s.feed g
    districts := tabulate fun d =>
      let x := s.district d
      if out x then
        { x with
          state := .ready, switchClosed := false, accumulator := 0, timerPhase := .idle, timerLeft := 0
          heldClaim := none, feedLossMark := true
          attemptsLeft :=
            if x.state = .energized then x.attemptsLeft
            else min (x.attemptsLeft + 1) x.config.retryBudget }
      else x
    bank := countedBank s [feedCounter f .feedFaults] }

/-- The notices of an assertion, the Counter notice first (R74, R119). -/
def assertionNotices (s : State) (f : FeedNo) : List Notice :=
  runNotices s [feedCounter f .feedFaults] ++ [.feed f .suspended]

/-- What a release of the fault input of a Suspended feed does: Resuming, with the resume timer started
(R78). -/
def feedReleased (s : State) (f : FeedNo) : State :=
  s.setFeed f
    { s.feed f with
      state := .resuming, resumeTimer := some ((s.feed f).resumeDelay * 10 * 1152)
      lineLevel := .released }

/-- A beat as it is produced: its time is recorded, the pulse timer starts at 1 ms, the interval timer
restarts in Internal mode, and the Recovery Scheduler takes it in the same step (R106, R87). -/
def beatProduced (s : State) : State :=
  takeBeat
    { s with beats :=
      { s.beats with
        lastBeat := some s.now
        pulseTimer := some 1152
        intervalTimer :=
          if s.beats.mode = .internal then some (s.beats.interval * 1152) else s.beats.intervalTimer } }

/-- The record of a district as the Sense Unit leaves it (R23, R24). -/
def sensed (x : District) (value : Nat) (beyond : Bool) : District :=
  { x with
    lastSample := value, overRange := beyond
    peakInSettle := if x.state = .settling then max x.peakInSettle value else x.peakInSettle }

/-- Every block at its hard-reset values (R2, R19, R23 to R25, R68, R84, R86, R113, R124, R132, R139, R146,
R168). -/
def AtHardReset (t : State) : Prop :=
  (∀ d : DistrictNo, t.district d =
    { config :=
        { feed := 0, kind := .plain, group := none, parent := none, priority := 8, tripThreshold := 300
          tripLevel := 2000, drain := 20, hardLimit := 1200, settleAllowance := 400, flipLevel := 0
          guardLength := 50, settleTime := 100, provingTime := 20, retryBudget := 5, backoffBase := 25
          backoffCap := 400, declaredClaim := 20, learnPeak := true }
      state := .off, switchClosed := false, polarity := .normal, timerPhase := .idle, timerLeft := 0
      attemptsLeft := 0, backoffStep := 0, incident := 0, incidentOpen := false, holdMark := false
      feedLossMark := false, heldClaim := none, observedPeak := none, lastTripCause := none
      lastSample := 0, overRange := false, peakInSettle := 0, accumulator := 0, flipArmed := false
      guardRun := 0 }) ∧
  t.nextIncident = 1 ∧ t.incidentWrap = 65535 ∧
  (∀ f : FeedNo, (t.feed f).allowance = 50 ∧ (t.feed f).launchWidth = 2 ∧
    (t.feed f).faultLevel = .activeLow ∧ (t.feed f).resumeDelay = 50 ∧
    (t.feed f).resumeTimer = none ∧ (t.feed f).heldSum = 0) ∧
  t.rotation = 23 ∧ (∀ g : GroupNo, t.groupMode g = .asAvailable) ∧
  t.beats.mode = .internal ∧ t.beats.interval = 200 ∧ t.beats.spacing = 20 ∧
  t.beats.lastBeat = none ∧ t.beats.pulseTimer = none ∧
  (∀ i : CounterIx, t.counter i = ⟨0, false, false⟩) ∧ t.bank.mode = .wrap ∧
  t.bank.noticeEnable = false ∧ (∀ n : LineNo, t.line n = ⟨.constantLow, false, .low⟩) ∧
  t.notices = ⟨[], false, 0, true⟩ ∧ t.link.receiver = .hunting ∧ t.link.gapTimer = .stopped ∧
  t.link.receiveBuffer = [] ∧ t.link.replyQueue = [] ∧ t.link.sending = none ∧ t.link.tally = 0 ∧
  t.link.lastCause = none ∧ t.link.resetPending = false

/-- The model's own fields and the waiting commands stand. -/
def SameSurroundings (s t : State) : Prop :=
  t.now = s.now ∧ t.choices = s.choices ∧ t.pending = s.pending

/-- District `d` is launched at the beat taken in `s`: it was in Ready and is in Settling after it. -/
def launchedAt (s : State) (d : DistrictNo) : Bool :=
  decide ((s.district d).state = .ready ∧ ((takeBeat s).district d).state = .settling)

/-! ### The decisions of a beat, as statements name them

Which launches a beat makes is read off what it leaves (`launchedAt`), and so are the values that the tests
of chapter 5 look at when the walk reaches a candidate: they follow from the launches decided before it. -/

/-- The effective claim of a district (R41). -/
def claimOf (s : State) (d : DistrictNo) : Nat :=
  let x := s.district d
  min (max x.config.declaredClaim (x.observedPeak.getD 0)) (s.feed x.config.feed).allowance

/-- District `d` is a member of synchronized group `g` (R86). -/
def inSync (s : State) (g : GroupNo) (d : DistrictNo) : Bool :=
  decide ((s.district d).config.group = some g ∧ s.groupMode g = .synchronized)

/-- District `d` is in no group or in an as-available group, and so decided on its own (R86, R92). -/
def onItsOwn (s : State) (d : DistrictNo) : Bool := (List.finRange 8).all fun g => !inSync s g d

/-- The place in the walk order at which `d` is decided: its own, or where its synchronized group is
reached (R92, R94). -/
def turn (s : State) (d : DistrictNo) : Nat :=
  (walkOrder s).findIdx fun e => decide (e = d) || (List.finRange 8).any fun g => inSync s g d && inSync s g e

/-- The districts of feed `f` whose launch was decided before place `p` of the walk. -/
def launchedBefore (s : State) (p : Nat) (f : FeedNo) : List DistrictNo :=
  (walkOrder s).filter fun d =>
    launchedAt s d && decide ((s.district d).config.feed = f) && decide (turn s d < p)

/-- The launches-this-beat count of feed `f` at place `p` of the walk (R90). -/
def countBefore (s : State) (p : Nat) (f : FeedNo) : Nat := (launchedBefore s p f).length

/-- The free budget of feed `f` at place `p` of the walk (R90). -/
def freeBefore (s : State) (p : Nat) (f : FeedNo) : Nat :=
  (s.feed f).allowance - (s.feed f).heldSum - ((launchedBefore s p f).map (claimOf s)).sum

/-- Synchronized group `g` waits: a member is in Backoff, or in Ready without being a candidate (R94). -/
def groupWaits (s : State) (g : GroupNo) : Bool :=
  allDistricts.any fun d =>
    decide ((s.district d).config.group = some g) &&
      (decide ((s.district d).state = .backoff) ||
        decide ((s.district d).state = .ready) && !candidate s d)

/-- The members of group `g` on feed `f` that its launch would launch (R95). -/
def membersOn (s : State) (g : GroupNo) (f : FeedNo) : List DistrictNo :=
  (walkOrder s).filter fun d =>
    decide ((s.district d).config.group = some g ∧ (s.district d).config.feed = f)

/-- Group `g`, reached at place `p`, passes the second test of R95 on feed `f`: its members there are within
the launch width. -/
def groupWidthOk (s : State) (p : Nat) (g : GroupNo) (f : FeedNo) : Bool :=
  decide (countBefore s p f + (membersOn s g f).length ≤ (s.feed f).launchWidth)

/-- Group `g`, reached at place `p`, passes the third test of R95 on feed `f`: the claims of its members there
are within the free budget. -/
def groupBudgetOk (s : State) (p : Nat) (g : GroupNo) (f : FeedNo) : Bool :=
  decide (((membersOn s g f).map (claimOf s)).sum ≤ freeBefore s p f)

/-- The blocked mark of feed `f` is set when the walk reaches place `p`: a candidate decided on its own
before did not fit the budget there (R92), or a synchronized group reached before failed there (R96). -/
def blockedBefore (s : State) (p : Nat) (f : FeedNo) : Bool :=
  (walkOrder s).any fun d =>
    decide (turn s d < p) && !launchedAt s d &&
      (onItsOwn s d && decide ((s.district d).config.feed = f) &&
          decide (countBefore s (turn s d) f < (s.feed f).launchWidth) ||
        (List.finRange 8).any fun g =>
          inSync s g d && !groupWaits s g && !(membersOn s g f).isEmpty &&
            !(groupWidthOk s (turn s d) g f && groupBudgetOk s (turn s d) g f))

/-- Group `g`, reached at place `p`, passes the three tests of R95 on feed `f`, or has no member there. -/
def groupFitsOn (s : State) (p : Nat) (g : GroupNo) (f : FeedNo) : Bool :=
  (membersOn s g f).isEmpty ||
    !blockedBefore s p f && groupWidthOk s p g f && groupBudgetOk s p g f

/-- The decision on candidate `d` is a budget failure on feed `f`: of `d` on its own (R92, R93), or of its
synchronized group (R95, R96). -/
def budgetFailsAt (s : State) (d : DistrictNo) (f : FeedNo) : Bool :=
  let p := turn s d
  !blockedBefore s p f &&
    (onItsOwn s d && decide ((s.district d).config.feed = f) &&
        decide (countBefore s p f < (s.feed f).launchWidth) && decide (freeBefore s p f < claimOf s d) ||
      (List.finRange 8).any fun g =>
        inSync s g d && !groupWaits s g && !(membersOn s g f).isEmpty && groupWidthOk s p g f &&
          !groupBudgetOk s p g f)

/-- The notices of one launch: those of its Launches increment, and the Launch notice with the incident, the
claim and the feed-loss mark before the launch clears it (R46, R98, R119). -/
def launchNotices (s : State) (d : DistrictNo) : List Notice :=
  countNotices s (districtCounter d .launches)
    ++ [.launch d (s.district d).incident (claimOf s d) (s.district d).feedLossMark]

/-- The notices of what is decided at candidate `d`: those of its launch, or of every launch of the group
that is reached at it, in walk order; or those of the Budget waits increments, by ascending feed (R96, R98,
R169). -/
def decisionNotices (s : State) (d : DistrictNo) : List Notice :=
  if (walkOrder s)[turn s d]? = some d then
    ((walkOrder s).filter fun e => launchedAt s e && decide (turn s e = turn s d)).flatMap (launchNotices s)
      ++ allFeeds.flatMap fun f =>
        if budgetFailsAt s d f then countNotices s (feedCounter f .budgetWaits) else []
  else []

/-- The request frames that a command can bring to be taken: those that wait, and the one that arrives
with it. -/
def framesAtHand (c : Instr) (s : State) : List Frame :=
  s.link.receiveBuffer ++ c.frame?.toList ++
    match c, s.link.receiver with
    | .receiveByte b _, .collecting _ stored => [frameOfStored (stored ++ [b])]
    | _, _ => []

/-- The frame of a Single Beat request (R111). -/
def isSingleBeat (f : Frame) : Bool := decide (f.kind = requestCode .singleBeat ∧ f.body = [])

/-- The timer of expiry `c` has reached 0 in the state its rule names, so that the expiry is due: of a
district's timer (R14, R47, R49, R56), a resume timer (R79), the interval timer (R107), the pulse timer (R112)
and the gap timer with no character that began before it ran out (R136), or the last byte of the frame being
sent has been sent (R143, R145). -/
def ExpiryDue (s : State) (c : Instr) : Prop :=
  (∃ d, (s.district d).timerLeft = 0 ∧
    (c = .settleExpiry d ∧ (s.district d).state = .settling ∧ (s.district d).timerPhase = .settle ∨
      c = .provingExpiry d ∧ (s.district d).state = .proving ∧ (s.district d).timerPhase = .proving ∨
      c = .backoffExpiry d ∧ (s.district d).state = .backoff ∧ (s.district d).timerPhase = .backoff)) ∨
  (∃ f, c = .resumeExpiry f ∧ (s.feed f).state = .resuming ∧ (s.feed f).resumeTimer = some 0) ∨
  (c = .intervalExpiry ∧ s.beats.mode = .internal ∧ s.beats.intervalTimer = some 0) ∨
  (c = .pulseExpiry ∧ s.beats.pulseTimer = some 0) ∨
  (c = .gapExpiry ∧ s.link.receiver ≠ .hunting ∧
    (s.link.gapTimer = .running 0 ∧ Config.characterArriving s.now = false ∨
      s.link.gapTimer = .awaitingEnd 0)) ∨
  (∃ x, s.link.sending = some x ∧ x.left = 0 ∧ c = if x.softReset then .softReset else .transmissionEnd)

end Sys2Proof.Machine
end

