-- ==== Sys2Proof/Certificates/Slice0/Obligations.lean ====
section
/-! DEFINITION. The statements for the provers, drawn from the numbered rules of spec/. Where a statement
says that a command completes, it gives the whole next state: `Closes u replies made t` says that `t` is `u`
with the replies queued, the notices handed, the transmitter's choice made and the status outputs following,
and `AnswersWith i s u made status contents` says the same of a request and its reply. A field that `u` does
not name stands as it was. Times are in ticks of the model, 1152 to the millisecond. That a request is taken
and the next frame chosen within the step that makes it possible is log entry 5, and that a request row is
the arrival of a whole frame log entry 6. -/

open Sys2Proof Sys2Proof.Machine

/-! ### Steps, time and the hard-reset condition -/

/-- A step takes the command at the front of the queue, with the queue's rest. That commands wait in one
first-in-first-out queue is the model's choice (log entry 18). -/
def Obligations.StepRunsFrontCommand : Prop :=
  ∀ (s : State) (c : Instr) (rest : List Instr), s.pending = c :: rest →
    step s = exec c { s with pending := rest }

/-- On an empty queue a step brings an expiry that is due, or one tick of time (the model's choice, log
entries 2, 3 and 7). Where some timer has run out, the expiry of one that has comes to wait, and nothing
else changes; where none has, every running timer has one tick less, and a gap timer that stands at 0 waits
for the end of the character that had begun, ten bit times at most (R14, R68, R106, R112, R133, R136, R143).
While the part is held in hard reset no timer runs and no expiry is due (R174). -/
def Obligations.IdleBringsExpiryOrTick : Prop :=
  ∀ s : State, s.pending = [] →
    (s.held = true → step s = .next { s with now := s.now + 1 }) ∧
    (s.held = false → (∃ c, ExpiryDue s c) → ∃ c, ExpiryDue s c ∧
      step s = .next { s with choices := s.choices + 1, pending := [c] }) ∧
    (s.held = false → (∀ c, ¬ ExpiryDue s c) → ∃ t, step s = .next t ∧ t.now = s.now + 1 ∧
      t.choices = s.choices ∧ t.pending = [] ∧
      (∀ d, t.district d = { s.district d with timerLeft := (s.district d).timerLeft - 1 }) ∧
      (∀ f, t.feed f = { s.feed f with resumeTimer := (s.feed f).resumeTimer.map (· - 1) }) ∧
      t.beats =
        { s.beats with
          intervalTimer := s.beats.intervalTimer.map (· - 1)
          pulseTimer := s.beats.pulseTimer.map (· - 1) } ∧
      t.link =
        { s.link with
          gapTimer :=
            match s.link.gapTimer with
            | .stopped => .stopped
            | .running 0 => .awaitingEnd (10 * Config.bitTicks s.link.rate - 1)
            | .running (n + 1) => .running n
            | .awaitingEnd n => .awaitingEnd (n - 1)
          sending := s.link.sending.map fun x => { x with left := x.left - 1 } } ∧
      t.nextIncident = s.nextIncident ∧ t.incidentWrap = s.incidentWrap ∧ t.rotation = s.rotation ∧
      t.groupModes = s.groupModes ∧ t.bank = s.bank ∧ t.lines = s.lines ∧ t.notices = s.notices ∧
      t.pins = s.pins)

/-- Every command completes in every state, and no command moves the clock, makes one of the model's free
choices or touches the commands that wait behind it. The clock, the choices and the queue are the model's
own (log entries 2, 3 and 18). -/
def Obligations.CommandsLeaveQueueAndClock : Prop :=
  ∀ (c : Instr) (s : State), ∃ t, exec c s = .next t ∧
    t.pending = s.pending ∧ t.now = s.now ∧ t.choices = s.choices

/-- While the part is held in hard reset, no sample, expiry, edge, byte or request is taken: the command
changes nothing, but that a fault input may change its level. Every switch drive, polarity and status output
is low, and the transmit line is high (R175). -/
def Obligations.HeldPartTakesNothing : Prop :=
  ∀ s : State, s.held = true →
    (∀ c : Instr, (∀ strap, c ≠ .resetEnd strap) → (∀ strap, c ≠ .powerUp strap) → c ≠ .hardReset →
      c ≠ .lossOfSupply → (∀ f level, c ≠ .feedFaultEdge f level) → exec c s = .next s) ∧
    (∀ f level, exec (.feedFaultEdge f level) s =
      .next { s with pins := { s.pins with faultInput := s.pins.faultInput.set f.val level } }) ∧
    (Inv s → (∀ d, switchDrive s d = .low ∧ polarityOutput s d = .low) ∧
      (∀ n, statusOutput s n = .low) ∧ transmitLine s = .high)

/-- An open switch closes only at a beat: at an interval expiry, an edge of the beat input, or a Single Beat
request that is taken, where a request arrives or the end of a transmission makes room for one that waits;
and only for a district that was in Ready without a hold mark on a Normal feed, unless another request is
taken before in the same step (R46, R88, R106, R111). No sample, other expiry, feed fault or reset closes
one. That waiting requests are taken in the step that makes it possible is log entry 5. -/
def Obligations.SwitchClosesOnlyAtBeats : Prop :=
  ∀ (c : Instr) (s t : State) (d : DistrictNo), exec c s = .next t →
    (s.district d).switchClosed = false → (t.district d).switchClosed = true →
    let fromReady : Prop :=
      (s.district d).state = .ready ∧ (s.district d).holdMark = false ∧
        (s.feed (s.district d).config.feed).state = .normal
    ((c = .intervalExpiry ∨ c = .beatInputEdge) ∧ fromReady) ∨
      (c.frame?.isSome = true ∨ (∃ b stop, c = .receiveByte b stop) ∨ c = .transmissionEnd ∨
        c = .gapExpiry ∧ ¬ LinkSettled s) ∧
      (∃ f ∈ framesAtHand c s, isSingleBeat f = true) ∧
      ((∀ f ∈ framesAtHand c s, isSingleBeat f = true) → fromReady)

/-! ### Notices and counters -/

/-- A notice that is made enters the queue at the back, carrying the lost mark as its header bit and
clearing it, or is dropped and sets the mark where 48 are held; a masked kind is not made (R169, R170). -/
def Obligations.NoticeEntry : Prop :=
  ∀ (n : Notice) (s : State),
    (s.notices.kindMask.getLsbD (maskBit (noticeKind n)) = false → makeNotice n s = s) ∧
    (s.notices.kindMask.getLsbD (maskBit (noticeKind n)) = true → s.notices.entries.length < 48 →
      makeNotice n s =
        { s with notices :=
          { s.notices with entries := s.notices.entries ++ [⟨n, s.notices.lost⟩], lost := false } }) ∧
    (s.notices.kindMask.getLsbD (maskBit (noticeKind n)) = true → 48 ≤ s.notices.entries.length →
      makeNotice n s = { s with notices := { s.notices with lost := true } })

/-- An increment: the table of R116 in wrap mode, and in stop mode the same below 65535 and nothing at
65535 (R117); a mark it sets hands a Counter notice while the enable is on (R119). No other counter and no
other part changes. -/
def Obligations.CounterIncrement : Prop :=
  ∀ (i : CounterIx) (s : State),
    let c := s.counter i
    let becomes (x : Counter) (marks : List AttentionMark) : Prop :=
      increment i s =
        { s with
          bank := { s.bank with counters := s.bank.counters.set i.val x }
          notices := handAll
            (if s.bank.noticeEnable then marks.map (Notice.counter i) else []) s.notices }
    (c.value ≤ 32766 → becomes { c with value := c.value + 1 } []) ∧
    (c.value = 32767 → becomes { c with value := 32768, half := true } [.half]) ∧
    (32768 ≤ c.value → c.value ≤ 65533 → becomes { c with value := c.value + 1 } []) ∧
    (c.value = 65534 → becomes { c with value := 65535, full := true } [.full]) ∧
    (c.value = 65535 → s.bank.mode = .wrap → becomes ⟨0, false, true⟩ [.full]) ∧
    (c.value = 65535 → s.bank.mode = .stop → increment i s = s)

/-! ### Taking requests -/

/-- A frame whose kind is no request kind is answered UNKNOWN, and one whose body is not of its kind's
length BAD_LENGTH, and neither changes anything else (R140, R142, R148). -/
def Obligations.MalformedRequestAnswered : Prop :=
  ∀ s : State, TakesAtOnce s →
    (∀ kind tag body, kind.toNat = 0 ∨ 25 ≤ kind.toNat →
      AnswersWith (.unknownKindRequest kind tag body) s s [] 0x13 []) ∧
    (∀ i f k, i.frame? = some f → requestKindOf f.kind = some k → f.body.length ≠ bodyLength k →
      AnswersWith i s s [] 0x12 [])

/-- A district number of 24 or more is answered BAD_ARG by every request on one district, and nothing
changes (R148, R150, R162, R164). -/
def Obligations.DistrictNumberRefused : Prop :=
  ∀ (s : State) (tag b p : Byte), TakesAtOnce s → 24 ≤ b.toNat →
    AnswersWith (.readDistrict tag [b]) s s [] 0x11 [] ∧
    AnswersWith (.on tag [b]) s s [] 0x11 [] ∧
    AnswersWith (.off tag [b]) s s [] 0x11 [] ∧
    AnswersWith (.clear tag [b]) s s [] 0x11 [] ∧
    AnswersWith (.hold tag [b]) s s [] 0x11 [] ∧
    AnswersWith (.release tag [b]) s s [] 0x11 [] ∧
    AnswersWith (.setPolarity tag [b, p]) s s [] 0x11 []

/-- While the reply queue is full, or a Reset request awaits its soft reset, a request that arrives waits in
the receive buffer, and is discarded with cause overrun where 4 wait already (R138, R140, R145). -/
def Obligations.RequestWaitsInBuffer : Prop :=
  ∀ (s : State) (i : Instr) (f : Frame), i.frame? = some f → s.held = false → LinkSettled s →
    LevelsFollow s → (4 ≤ s.link.replyQueue.length ∨ s.link.resetPending = true) →
    (s.link.receiveBuffer.length < 4 →
      exec i s = .next { s with link :=
        { s.link with receiveBuffer := s.link.receiveBuffer ++ [f] } }) ∧
    (4 ≤ s.link.receiveBuffer.length →
      exec i s = .next { s with link :=
        { s.link with tally := min (s.link.tally + 1) 255, lastCause := some .overrun } })

/-- A Reset request is answered OK, changes nothing else, and bars every further request until the soft
reset at the end of that reply (R145, R166). -/
def Obligations.ResetAwaitsItsReply : Prop :=
  ∀ (s : State) (tag : Byte), TakesAtOnce s →
    ∃ t, exec (.reset tag []) s = .next t ∧
      Closes { s with link := { s.link with resetPending := true } } [⟨⟨0x98, tag, [0x00]⟩, true⟩] [] t

/-! ### The district table -/

/-- Clamping brings every numeric field into its range, H, F and Bmax against the applied T, L and B; a
configuration in range is left as it is, and the coded fields are not touched (R2, R4). -/
def Obligations.ClampingIntoRange : Prop :=
  ∀ c : DistrictConfig,
    let a := clampConfig c
    ConfigInRange a ∧ (ConfigInRange c → a = c) ∧
    a.feed = c.feed ∧ a.kind = c.kind ∧ a.group = c.group ∧ a.parent = c.parent ∧
    a.learnPeak = c.learnPeak ∧
    a.tripThreshold = max 1 (min c.tripThreshold 4095) ∧
    a.hardLimit = max a.tripThreshold (max 1 (min c.hardLimit 4095)) ∧
    a.tripLevel = max 1 (min c.tripLevel 65535) ∧ a.flipLevel = min c.flipLevel (a.tripLevel - 1) ∧
    a.backoffBase = max 1 (min c.backoffBase 1000) ∧
    a.backoffCap = max a.backoffBase (max 1 (min c.backoffCap 6000)) ∧
    a.priority = max 1 (min c.priority 15) ∧ a.drain = min c.drain 255 ∧
    a.settleAllowance = min c.settleAllowance 4095 ∧ a.guardLength = max 1 (min c.guardLength 255) ∧
    a.settleTime = max 1 (min c.settleTime 255) ∧ a.provingTime = min c.provingTime 255 ∧
    a.retryBudget = max 1 (min c.retryBudget 15) ∧ a.declaredClaim = min c.declaredClaim 250

/-- A Configure District request that passes its checks: every field takes its applied value, attempts left
is cut to the retry budget, the observed peak is cleared and the polarity set normal where R8 and R9 say so,
and the reply carries the configuration as applied, CLAMPED where a value was brought into range (R3, R7,
R8, R9, R154). -/
def Obligations.ConfigureDistrictApplies : Prop :=
  ∀ (s : State) (tag : Byte) (d : DistrictNo) (c : DistrictConfig),
    TakesAtOnce s → ParentsAcyclic s → FieldsFit c →
    (∀ p n, c.parent = some p → ancestor s n p ≠ some d) →
    let x := s.district d
    ((c.feed = x.config.feed ∧ c.kind = x.config.kind ∧ c.group = x.config.group ∧
        c.parent = x.config.parent) ∨ x.state = .off) →
    let a := clampConfig c
    AnswersWith (.configureDistrict tag (configBytes d c)) s
      (s.setDistrict d
        { x with
          config := a
          attemptsLeft := min x.attemptsLeft a.retryBudget
          observedPeak :=
            if a.declaredClaim = x.config.declaredClaim ∧ (x.config.learnPeak = false ∨ a.learnPeak = true)
            then x.observedPeak else none
          polarity :=
            if x.config.kind = .reversing ∧ a.kind = .plain then .normal else x.polarity })
      [] (if a = c then 0x00 else 0x01) (configBytes d a)

/-- A Configure District request that fails a check changes nothing: BAD_ARG for a district number or a coded
field outside its codes and for a parent that would close a cycle, and after those checks BAD_STATE for a
change of feed, kind, group or parent outside Off (R3, R5, R10, R154). -/
def Obligations.ConfigureDistrictRefuses : Prop :=
  ∀ (s : State) (tag : Byte), TakesAtOnce s →
    (∀ body : List Byte, body.length = 28 →
      (24 ≤ (body.getD 0 0).toNat ∨ 4 ≤ (body.getD 1 0).toNat ∨ 2 ≤ (body.getD 2 0).toNat ∨
        9 ≤ (body.getD 3 0).toNat ∨
        (24 ≤ (body.getD 4 0).toNat ∧ (body.getD 4 0).toNat ≠ 255) ∨ 2 ≤ (body.getD 27 0).toNat) →
      AnswersWith (.configureDistrict tag body) s s [] 0x11 []) ∧
    (∀ (d p : DistrictNo) (n : Nat) (c : DistrictConfig), ParentsAcyclic s → FieldsFit c →
      c.parent = some p → ancestor s n p = some d →
      AnswersWith (.configureDistrict tag (configBytes d c)) s s [] 0x11 []) ∧
    (∀ (d : DistrictNo) (c : DistrictConfig), ParentsAcyclic s → FieldsFit c →
      (∀ p n, c.parent = some p → ancestor s n p ≠ some d) → (s.district d).state ≠ .off →
      (c.feed ≠ (s.district d).config.feed ∨ c.kind ≠ (s.district d).config.kind ∨
        c.group ≠ (s.district d).config.group ∨ c.parent ≠ (s.district d).config.parent) →
      AnswersWith (.configureDistrict tag (configBytes d c)) s s [] 0x10 [])

/-- Identify is answered with the part's fixed description and the link rate (R149), and Read District with
the whole record in the layout of section 10.7 (R150); neither changes anything. -/
def Obligations.IdentifyAndReadDistrict : Prop :=
  ∀ (s : State) (tag : Byte) (d : DistrictNo), TakesAtOnce s →
    AnswersWith (.identify tag []) s s [] 0x00
      [0x18, 0x24, 1, 24, 4, 8, 8, 128, 48, 4, 4,
        match s.link.rate with | .baud57600 => 0 | .baud230400 => 1] ∧
    let x := s.district d
    let bit (b : Bool) (n : Nat) : Nat := if b then n else 0
    AnswersWith (.readDistrict tag [byteOf d.val]) s s [] 0x00
      (configBytes d x.config
        ++ [stateByte x.state,
          BitVec.ofNat 8 (bit x.switchClosed 1 + bit (x.polarity == .reversed) 2 + bit x.incidentOpen 4
            + bit x.holdMark 8 + bit x.feedLossMark 16 + bit x.overRange 32 + bit x.flipArmed 64),
          phaseByte x.timerPhase]
        ++ wordBytes ((x.timerLeft + 1151) / 1152) ++ [byteOf x.attemptsLeft, byteOf x.backoffStep]
        ++ wordBytes x.incident
        ++ [match x.heldClaim with | none => 0xFF | some n => BitVec.ofNat 8 n,
          match x.observedPeak with | none => 0xFF | some n => BitVec.ofNat 8 n,
          match x.lastTripCause with | none => 0 | some .accumulated => 1 | some .hard => 2]
        ++ wordBytes x.lastSample ++ wordBytes x.peakInSettle ++ wordBytes x.accumulator
        ++ [byteOf x.guardRun])

/-- On takes a district from Off to Ready with its attempts loaded, and Off takes a district from any other
state to Off, its switch open and its claim returned to its feed; in the other states each is answered
UNCHANGED and changes nothing (R43, R44, R162). -/
def Obligations.OnAndOffMoveTheDistrict : Prop :=
  ∀ (s : State) (tag : Byte) (d : DistrictNo), TakesAtOnce s →
    let x := s.district d
    let f := x.config.feed
    (x.state = .off →
      AnswersWith (.on tag [byteOf d.val]) s
        (s.setDistrict d
          { x with
            state := .ready, holdMark := false, attemptsLeft := x.config.retryBudget, backoffStep := 0
            incident := 0, incidentOpen := false }) [] 0x00 [] ∧
      AnswersWith (.off tag [byteOf d.val]) s s [] 0x02 []) ∧
    (x.state ≠ .off →
      AnswersWith (.on tag [byteOf d.val]) s s [] 0x02 [] ∧
      AnswersWith (.off tag [byteOf d.val]) s
        ((s.setFeed f { s.feed f with heldSum := (s.feed f).heldSum - x.heldClaim.getD 0 }).setDistrict d
          { x with
            state := .off, switchClosed := false, accumulator := 0, timerPhase := .idle, timerLeft := 0
            heldClaim := none, holdMark := false, feedLossMark := false, incident := 0
            incidentOpen := false }) [] 0x00 [])

/-- All Off takes every district of the masked feeds that is not in Off to Off, in one step, and is answered
OK where there was one and UNCHANGED where there was none; a mask of no feed or with an unused bit set is
answered BAD_ARG (R45, R163). -/
def Obligations.AllOffTurnsFeedsOff : Prop :=
  ∀ (s : State) (tag m : Byte), TakesAtOnce s →
    let masked (x : District) : Bool := m.getLsbD x.config.feed.val && decide (x.state ≠ .off)
    (m.toNat = 0 ∨ 16 ≤ m.toNat → AnswersWith (.allOff tag [m]) s s [] 0x11 []) ∧
    (1 ≤ m.toNat → m.toNat ≤ 15 →
      AnswersWith (.allOff tag [m]) s
        { s with
          districts := tabulate fun d =>
            let x := s.district d
            if masked x then
              { x with
                state := .off, switchClosed := false, accumulator := 0, timerPhase := .idle
                timerLeft := 0, heldClaim := none, holdMark := false, feedLossMark := false
                incident := 0, incidentOpen := false }
            else x
          feeds := tabulate fun f =>
            { s.feed f with heldSum := (s.feed f).heldSum - claimSum s masked f } }
        [] (if ∃ d, masked (s.district d) = true then 0x00 else 0x02) [])

/-- Clear takes a district from Lockout to Ready with its attempts reloaded and its incident still open, and
is answered BAD_STATE in any other state (R57). Hold sets the hold mark in any state but Off, where it is
answered BAD_STATE, and Release clears it; each is UNCHANGED where the mark already stands so. None of the
three changes anything else (R58, R59). -/
def Obligations.ClearHoldAndRelease : Prop :=
  ∀ (s : State) (tag : Byte) (d : DistrictNo), TakesAtOnce s →
    let x := s.district d
    (x.state = .lockout →
      AnswersWith (.clear tag [byteOf d.val]) s
        (s.setDistrict d
          { x with state := .ready, attemptsLeft := x.config.retryBudget, backoffStep := 0 })
        [] 0x00 []) ∧
    (x.state ≠ .lockout → AnswersWith (.clear tag [byteOf d.val]) s s [] 0x10 []) ∧
    (x.state = .off → AnswersWith (.hold tag [byteOf d.val]) s s [] 0x10 []) ∧
    (x.state ≠ .off →
      AnswersWith (.hold tag [byteOf d.val]) s (s.setDistrict d { x with holdMark := true }) []
        (if x.holdMark then 0x02 else 0x00) []) ∧
    AnswersWith (.release tag [byteOf d.val]) s (s.setDistrict d { x with holdMark := false }) []
      (if x.holdMark then 0x00 else 0x02) []

/-- Set Polarity, its checks in their order: BAD_ARG for a district number of 24 or more, for a polarity byte
of 2 or more and for a plain district, BAD_STATE for a closed switch, and else the polarity set (R60,
R164). -/
def Obligations.SetPolarityWhileOpen : Prop :=
  ∀ (s : State) (tag b p : Byte), TakesAtOnce s →
    (24 ≤ b.toNat ∨ 2 ≤ p.toNat → AnswersWith (.setPolarity tag [b, p]) s s [] 0x11 []) ∧
    ∀ d : DistrictNo, b = byteOf d.val → p.toNat < 2 →
      let x := s.district d
      let wanted : Polarity := if p = 0 then .normal else .reversed
      (x.config.kind = .plain → AnswersWith (.setPolarity tag [b, p]) s s [] 0x11 []) ∧
      (x.config.kind = .reversing → x.switchClosed = true →
        AnswersWith (.setPolarity tag [b, p]) s s [] 0x10 []) ∧
      (x.config.kind = .reversing → x.switchClosed = false →
        AnswersWith (.setPolarity tag [b, p]) s (s.setDistrict d { x with polarity := wanted }) []
          (if x.polarity = wanted then 0x02 else 0x00) [])

/-- Set Incident Wrap sets the wrap to the number its two bytes carry and the next incident number to 1,
whatever the wrap, and is always answered OK (R63, R161). -/
def Obligations.SetIncidentWrapRestarts : Prop :=
  ∀ (s : State) (tag low high : Byte), TakesAtOnce s →
    AnswersWith (.setIncidentWrap tag [low, high]) s
      { s with nextIncident := 1, incidentWrap := low.toNat + 256 * high.toNat } [] 0x00 []

/-! ### Feeds -/

/-- A Configure Feed request that repeats the fault level held sets the fields, each brought into range,
changes nothing else, and is answered with them and the feed state; an allowance below the held sum is
answered BAD_STATE whatever the fault level, and a feed number above 3 or a fault level byte of 2 or more
BAD_ARG (R69, R72, R155). -/
def Obligations.ConfigureFeedApplies : Prop :=
  ∀ (s : State) (tag fb a0 a1 w l r : Byte), TakesAtOnce s →
    let asked := a0.toNat + 256 * a1.toNat
    let allowance := max 1 (min asked 250)
    let width := max 1 (min w.toNat 8)
    let delay := max 1 r.toNat
    (4 ≤ fb.toNat ∨ 2 ≤ l.toNat →
      AnswersWith (.configureFeed tag [fb, a0, a1, w, l, r]) s s [] 0x11 []) ∧
    ∀ f : FeedNo, fb = byteOf f.val → l.toNat < 2 →
      let x := s.feed f
      (allowance < x.heldSum → AnswersWith (.configureFeed tag [fb, a0, a1, w, l, r]) s s [] 0x10 []) ∧
      (x.heldSum ≤ allowance → l = faultLevelByte x.faultLevel →
        AnswersWith (.configureFeed tag [fb, a0, a1, w, l, r]) s
          (s.setFeed f { x with allowance := allowance, launchWidth := width, resumeDelay := delay })
          [] (if allowance = asked ∧ width = w.toNat ∧ delay = r.toNat then 0x00 else 0x01)
          ([fb] ++ wordBytes allowance ++ [byteOf width, l, byteOf delay, feedStateByte x.state]))

/-- A fault input asserted by an edge in Normal or Resuming suspends the feed (R73, R74, R75). -/
def Obligations.FeedAssertionSuspends : Prop :=
  ∀ (s : State) (f : FeedNo) (level : Level), s.held = false → s.pins.faultInput[f.val] ≠ level →
    readFault (s.feed f).faultLevel level = .asserted → (s.feed f).state ≠ .suspended →
    ∃ t, exec (.feedFaultEdge f level) s = .next t ∧
      Closes
        { feedAsserted s f with
          pins := { s.pins with faultInput := s.pins.faultInput.set f.val level } }
        [] (assertionNotices s f) t

/-- A fault input released by an edge in Suspended starts the resume delay (R78); any other edge only
records the line level (R73); a level the line already stands at is no edge. A resume expiry returns the
feed to Normal with a Feed notice (R79), and there is none before the resume timer of a Resuming feed has
reached 0. That an event which does not occur changes nothing is log entry 4. -/
def Obligations.FeedReleaseAndResume : Prop :=
  ∀ (s : State) (f : FeedNo), s.held = false →
    (∀ level, s.pins.faultInput[f.val] ≠ level →
      let pins : Pins := { s.pins with faultInput := s.pins.faultInput.set f.val level }
      (readFault (s.feed f).faultLevel level = .released → (s.feed f).state = .suspended →
        ∃ t, exec (.feedFaultEdge f level) s = .next t ∧
          Closes { feedReleased s f with pins := pins } [] [] t) ∧
      (readFault (s.feed f).faultLevel level = .released → (s.feed f).state ≠ .suspended →
        ∃ t, exec (.feedFaultEdge f level) s = .next t ∧
          Closes { s.setFeed f { s.feed f with lineLevel := .released } with pins := pins } [] [] t) ∧
      (readFault (s.feed f).faultLevel level = .asserted → (s.feed f).state = .suspended →
        ∃ t, exec (.feedFaultEdge f level) s = .next t ∧
          Closes { s.setFeed f { s.feed f with lineLevel := .asserted } with pins := pins } [] [] t)) ∧
    exec (.feedFaultEdge f s.pins.faultInput[f.val]) s = .next s ∧
    ((s.feed f).state = .resuming → (s.feed f).resumeTimer = some 0 →
      ∃ t, exec (.resumeExpiry f) s = .next t ∧
        Closes (s.setFeed f { s.feed f with state := .normal, resumeTimer := none }) []
          [.feed f .normal] t) ∧
    ((s.feed f).state ≠ .resuming ∨ (s.feed f).resumeTimer ≠ some 0 →
      exec (.resumeExpiry f) s = .next s)

/-- A Configure Feed request that changes the fault level re-reads the line under the new level in the same
step and acts on it as an edge would, with the fields already applied (R81). -/
def Obligations.FaultLevelChangeRereads : Prop :=
  ∀ (s : State) (tag a0 a1 w r : Byte) (f : FeedNo) (fault : FaultLevel), TakesAtOnce s →
    let x := s.feed f
    let asked := a0.toNat + 256 * a1.toNat
    let allowance := max 1 (min asked 250)
    let width := max 1 (min w.toNat 8)
    let delay := max 1 r.toNat
    fault ≠ x.faultLevel → x.heldSum ≤ allowance →
    let v := s.setFeed f
      { x with
        allowance := allowance, launchWidth := width, faultLevel := fault, resumeDelay := delay }
    let i : Instr := .configureFeed tag [byteOf f.val, a0, a1, w, faultLevelByte fault, r]
    let status : Byte :=
      if allowance = asked ∧ width = w.toNat ∧ delay = r.toNat then 0x00 else 0x01
    let contents (state : FeedState) : List Byte :=
      [byteOf f.val] ++ wordBytes allowance
        ++ [byteOf width, faultLevelByte fault, byteOf delay, feedStateByte state]
    (readFault fault s.pins.faultInput[f.val] = .asserted → x.state ≠ .suspended →
      AnswersWith i s (feedAsserted v f) (assertionNotices s f) status (contents .suspended)) ∧
    (readFault fault s.pins.faultInput[f.val] = .released → x.state = .suspended →
      AnswersWith i s (feedReleased v f) [] status (contents .resuming))

/-- Read Feed is answered with the feed's record and Read Summary with the states of every district and
feed, the rotation pointer and the group modes; neither changes anything, and a feed number above 3 is
answered BAD_ARG (R151, R152). -/
def Obligations.ReadFeedAndSummaryReplies : Prop :=
  ∀ (s : State) (tag : Byte), TakesAtOnce s →
    (∀ b : Byte, 4 ≤ b.toNat → AnswersWith (.readFeed tag [b]) s s [] 0x11 []) ∧
    (∀ f : FeedNo,
      let x := s.feed f
      AnswersWith (.readFeed tag [byteOf f.val]) s s [] 0x00
        ([byteOf f.val] ++ wordBytes x.allowance
          ++ [byteOf x.launchWidth, faultLevelByte x.faultLevel, byteOf x.resumeDelay,
            feedStateByte x.state, lineLevelByte x.lineLevel]
          ++ wordBytes ((x.resumeTimer.getD 0 + 1151) / 1152)
          ++ [byteOf x.heldSum, byteOf (x.allowance - x.heldSum)])) ∧
    ∃ contents : List Byte,
      AnswersWith (.readSummary tag []) s s [] 0x00 contents ∧ contents.length = 30 ∧
      (∀ d : DistrictNo, contents[d.val]? =
        some (BitVec.ofNat 8 ((stateByte (s.district d).state).toNat +
          if (s.district d).holdMark then 8 else 0))) ∧
      (∀ f : FeedNo, contents[24 + f.val]? = some (feedStateByte (s.feed f).state)) ∧
      contents[28]? = some (byteOf s.rotation.val) ∧
      ∀ g : GroupNo, (contents.getD 29 0).getLsbD g.val = (s.groupMode g == .synchronized)

/-! ### Groups, beats, counters, status lines, notices, the link -/

/-- Configure Group sets the mode of a group named 1 to 8, OK where it changed and UNCHANGED where it
already held it; a group byte of 0 or above 8 or a mode byte of 2 or more is answered BAD_ARG (R100,
R156). -/
def Obligations.ConfigureGroupSetsMode : Prop :=
  ∀ (s : State) (tag b m : Byte), TakesAtOnce s →
    (b.toNat = 0 ∨ 9 ≤ b.toNat ∨ 2 ≤ m.toNat →
      AnswersWith (.configureGroup tag [b, m]) s s [] 0x11 []) ∧
    ∀ g : GroupNo, b.toNat = g.val + 1 → m.toNat < 2 →
      let mode : GroupMode := if m = 0 then .asAvailable else .synchronized
      AnswersWith (.configureGroup tag [b, m]) s
        { s with groupModes := s.groupModes.set g.val mode } []
        (if s.groupMode g = mode then 0x02 else 0x00) []

/-- Configure Counters sets the mode and the notice enable together, OK where either changed and UNCHANGED
where both repeat; a byte outside its two codes is answered BAD_ARG. No counter and no mark changes (R120,
R158). -/
def Obligations.ConfigureCountersSetsBoth : Prop :=
  ∀ (s : State) (tag m e : Byte), TakesAtOnce s →
    (2 ≤ m.toNat ∨ 2 ≤ e.toNat → AnswersWith (.configureCounters tag [m, e]) s s [] 0x11 []) ∧
    (m.toNat < 2 → e.toNat < 2 →
      let mode : CounterMode := if m = 0 then .wrap else .stop
      AnswersWith (.configureCounters tag [m, e]) s
        { s with bank := { s.bank with mode := mode, noticeEnable := e == 1 } } []
        (if s.bank.mode = mode ∧ s.bank.noticeEnable = (e == 1) then 0x02 else 0x00) [])

/-- Configure Beat sets the mode, the interval and the spacing, the two times brought into range, and
restarts the interval timing where the mode or the interval differs from that held; a mode byte of 3 or more
is answered BAD_ARG (R110, R157). -/
def Obligations.ConfigureBeatRestartsTiming : Prop :=
  ∀ (s : State) (tag m i0 i1 p0 p1 : Byte), TakesAtOnce s →
    (3 ≤ m.toNat → AnswersWith (.configureBeat tag [m, i0, i1, p0, p1]) s s [] 0x11 []) ∧
    ∀ mode : BeatMode, m = beatModeByte mode →
      let asked := i0.toNat + 256 * i1.toNat
      let askedSpacing := p0.toNat + 256 * p1.toNat
      let interval := max 5 (min asked 1000)
      let spacing := max 1 (min askedSpacing 255)
      AnswersWith (.configureBeat tag [m, i0, i1, p0, p1]) s
        { s with beats :=
          { s.beats with
            mode := mode, interval := interval, spacing := spacing
            intervalTimer :=
              if mode = s.beats.mode ∧ interval = s.beats.interval then s.beats.intervalTimer
              else if mode = .internal then some (interval * 1152) else none } } []
        (if interval = asked ∧ spacing = askedSpacing then 0x00 else 0x01)
        ([m] ++ wordBytes interval ++ wordBytes spacing)

/-- Single Beat produces one beat in every mode, whatever the interval and the spacing, and is answered OK
(R111). The notices the beat hands are those of BeatCountsAndNotices. -/
def Obligations.SingleBeatTakesOneBeat : Prop :=
  ∀ (s : State) (tag : Byte), TakesAtOnce s →
    AnswersWith (.singleBeat tag []) s (beatProduced s) [] 0x00 []

/-- A beat is produced at the interval expiry in Internal mode, once the interval timer has reached 0 and not
before (R107), and at an edge of the beat input in
External mode once the minimum spacing has passed since the last beat or there was none (R108); in every
other case the event changes nothing (R109; log entry 4). The notices the beat hands are those of
BeatCountsAndNotices. -/
def Obligations.BeatEvents : Prop :=
  ∀ s : State, s.held = false →
    (s.beats.mode = .internal → s.beats.intervalTimer = some 0 →
      ∃ t, exec .intervalExpiry s = .next t ∧ Closes (beatProduced s) [] [] t) ∧
    (s.beats.mode ≠ .internal ∨ s.beats.intervalTimer ≠ some 0 → exec .intervalExpiry s = .next s) ∧
    (s.beats.mode = .external →
      (∀ t0, s.beats.lastBeat = some t0 → s.beats.spacing * 1152 ≤ s.now - t0) →
      ∃ t, exec .beatInputEdge s = .next t ∧ Closes (beatProduced s) [] [] t) ∧
    (∀ t0, s.beats.lastBeat = some t0 → s.now - t0 < s.beats.spacing * 1152 →
      exec .beatInputEdge s = .next s) ∧
    (s.beats.mode ≠ .external → exec .beatInputEdge s = .next s)

/-- Read Counters and Read-and-Clear Counters are answered with the values and marks of the run, in
ascending index, and clear the marks of the run, the second its values too; a run of no counter, of more
than 16 or past index 127 is answered BAD_ARG (R121, R122, R165). -/
def Obligations.CounterReadsClear : Prop :=
  ∀ (s : State) (tag a n : Byte), TakesAtOnce s →
    let run (i : CounterIx) : Bool := decide (a.toNat ≤ i.val ∧ i.val < a.toNat + n.toNat)
    let cleared (after : Counter → Counter) : State :=
      { s with bank :=
        { s.bank with
          counters := tabulate fun i => if run i then after (s.counter i) else s.counter i } }
    let contents : List Byte :=
      [a, n] ++ ((List.finRange 128).filter run).flatMap fun i =>
        wordBytes (s.counter i).value
          ++ [BitVec.ofNat 8
            ((if (s.counter i).half then 1 else 0) + (if (s.counter i).full then 2 else 0))]
    (127 < a.toNat ∨ n.toNat = 0 ∨ 16 < n.toNat ∨ 128 < a.toNat + n.toNat →
      AnswersWith (.readCounters tag [a, n]) s s [] 0x11 [] ∧
      AnswersWith (.readAndClearCounters tag [a, n]) s s [] 0x11 []) ∧
    (1 ≤ n.toNat → n.toNat ≤ 16 → a.toNat + n.toNat ≤ 128 →
      AnswersWith (.readCounters tag [a, n]) s
        (cleared fun c => { c with half := false, full := false }) [] 0x00 contents ∧
      AnswersWith (.readAndClearCounters tag [a, n]) s (cleared fun _ => ⟨0, false, false⟩) [] 0x00
        contents)

/-- Configure Status Line gives an output its source and invert mark, and its level follows in the same step
and stands in the reply; OK where either changed and UNCHANGED where neither did (R130, R131, R159). The
object byte is not looked at for a kind that has no object, and BAD_ARG answers a line number above 7, a
source kind above 13, an object outside its kind's range and an invert byte of 2 or more. -/
def Obligations.ConfigureStatusLineFollows : Prop :=
  ∀ (s : State) (tag : Byte), TakesAtOnce s →
    (∀ l k o v : Byte,
      (8 ≤ l.toNat ∨ 14 ≤ k.toNat ∨ (2 ≤ k.toNat ∧ k.toNat ≤ 6 ∧ 24 ≤ o.toNat) ∨
        (7 ≤ k.toNat ∧ k.toNat ≤ 9 ∧ 4 ≤ o.toNat) ∨ 2 ≤ v.toNat) →
      AnswersWith (.configureStatusLine tag [l, k, o, v]) s s [] 0x11 []) ∧
    ∀ (n : LineNo) (source : Source) (o : Byte) (invert : Bool),
      (sourceObjectByte source ≠ 0xFF → o = sourceObjectByte source) →
      AnswersWith
        (.configureStatusLine tag [byteOf n.val, sourceKindByte source, o, if invert then 1 else 0]) s
        { s with lines := s.lines.set n.val { s.line n with source := source, invert := invert } } []
        (if (s.line n).source = source ∧ (s.line n).invert = invert then 0x02 else 0x00)
        [byteOf n.val, sourceKindByte source, sourceObjectByte source, if invert then 1 else 0,
          if sourceValue s source = invert then 0 else 1]

/-- Configure Notices sets the kind mask and the flow mark together and leaves the queue and the lost mark as
they stand, OK where either changed and UNCHANGED where both repeat; a set unused bit of the mask or a flow
byte of 2 or more is answered BAD_ARG (R160, R173). -/
def Obligations.ConfigureNoticesSetsBoth : Prop :=
  ∀ (s : State) (tag m w : Byte), TakesAtOnce s →
    (64 ≤ m.toNat ∨ 2 ≤ w.toNat → AnswersWith (.configureNotices tag [m, w]) s s [] 0x11 []) ∧
    (m.toNat < 64 → w.toNat < 2 →
      AnswersWith (.configureNotices tag [m, w]) s
        { s with notices := { s.notices with kindMask := m.setWidth 6, flow := w == 1 } } []
        (if s.notices.kindMask = m.setWidth 6 ∧ s.notices.flow = (w == 1) then 0x02 else 0x00) [])

/-- Link Status is answered OK with the discard tally and the last discard cause as they stand, and in the
same step the tally becomes 0 and the cause none (R139, R153). -/
def Obligations.LinkStatusClears : Prop :=
  ∀ (s : State) (tag : Byte), TakesAtOnce s →
    AnswersWith (.linkStatus tag []) s
      { s with link := { s.link with tally := 0, lastCause := none } } [] 0x00
      [byteOf s.link.tally,
        match s.link.lastCause with
        | none => 0
        | some .noise => 1
        | some .gap => 2
        | some .length => 3
        | some .check => 4
        | some .overrun => 5]

/-! ### Samples -/

/-- The evaluation of one sample (R26 to R33): the hard limit first, then the excess over Teff or the drain,
the flip check after an excess, and the trip check last. -/
def Obligations.SampleEvaluation : Prop :=
  ∀ (I : Nat) (x : District),
    let c := x.config
    let teff := if x.state = .settling then min (c.tripThreshold + c.settleAllowance) 4095
      else c.tripThreshold
    let mayFlip : Prop := c.kind = .reversing ∧ x.flipArmed = true ∧ c.flipLevel ≠ 0
    let flipped : District :=
      { x with
        polarity := match x.polarity with | .normal => .reversed | .reversed => .normal
        accumulator := 0, flipArmed := false, guardRun := 0 }
    let raised := min (x.accumulator + (I - teff)) 65535
    let drained := x.accumulator - min x.accumulator c.drain
    let run := min (x.guardRun + 1) 255
    let quiet : District :=
      { x with
        accumulator := drained, guardRun := run
        flipArmed := x.flipArmed || decide (c.kind = .reversing ∧ c.guardLength ≤ run) }
    (c.hardLimit ≤ I → mayFlip → evaluateSample I x = (flipped, .flip)) ∧
    (c.hardLimit ≤ I → ¬mayFlip → evaluateSample I x = (x, .trip .hard)) ∧
    (I < c.hardLimit → teff < I → mayFlip → c.flipLevel ≤ raised →
      evaluateSample I x = (flipped, .flip)) ∧
    (I < c.hardLimit → teff < I → ¬(mayFlip ∧ c.flipLevel ≤ raised) →
      evaluateSample I x =
        ({ x with accumulator := raised, guardRun := 0 },
          if c.tripLevel ≤ raised then .trip .accumulated else .pass)) ∧
    (I < c.hardLimit → I ≤ teff →
      evaluateSample I x = (quiet, if c.tripLevel ≤ drained then .trip .accumulated else .pass))

/-- A sample that decides nothing: with the switch open it is recorded alone (R23, R37), and with the switch
closed it moves the detector's values alone (R28, R29). -/
def Obligations.SampleDecidingNothing : Prop :=
  ∀ (s : State) (d : DistrictNo) (value : BitVec 12) (beyond : Bool), s.held = false →
    let x := sensed (s.district d) value.toNat beyond
    ((s.district d).switchClosed = false →
      ∃ t, exec (.sample d value beyond) s = .next t ∧ Closes (s.setDistrict d x) [] [] t) ∧
    ∀ y, (s.district d).switchClosed = true → evaluateSample value.toNat x = (y, .pass) →
      ∃ t, exec (.sample d value beyond) s = .next t ∧ Closes (s.setDistrict d y) [] [] t

/-- A sample that flips the district: the record as the detector leaves it, the Flips counter, and a Flip
notice with the new polarity behind any Counter notice (R33). -/
def Obligations.SampleFlips : Prop :=
  ∀ (s : State) (d : DistrictNo) (value : BitVec 12) (beyond : Bool) (y : District), s.held = false →
    (s.district d).switchClosed = true →
    evaluateSample value.toNat (sensed (s.district d) value.toNat beyond) = (y, .flip) →
    ∃ t, exec (.sample d value beyond) s = .next t ∧
      Closes { s.setDistrict d y with bank := countedBank s [districtCounter d .flips] } []
        (runNotices s [districtCounter d .flips] ++ [.flip d y.polarity]) t

/-- A sample that trips the district (R34, R51, R52, R53, R61): the switch opens, the claim returns to the
feed, an incident is opened where none is open, the district enters Backoff or, with no attempt left,
Lockout, the counters are incremented in ascending index, and a Trip notice follows any Counter notice. -/
def Obligations.SampleTrips : Prop :=
  ∀ (s : State) (d : DistrictNo) (value : BitVec 12) (beyond : Bool) (y : District) (cause : TripCause),
    s.held = false → (s.district d).switchClosed = true →
    evaluateSample value.toNat (sensed (s.district d) value.toNat beyond) = (y, .trip cause) →
    let f := y.config.feed
    let number :=
      if y.incidentOpen then y.incident else if s.incidentWrap = 0 then 0 else s.nextIncident
    let following :=
      if y.incidentOpen ∨ s.incidentWrap = 0 then s.nextIncident
      else if s.incidentWrap ≤ s.nextIncident then 1 else s.nextIncident + 1
    let r : District :=
      { y with
        lastTripCause := some cause, switchClosed := false, accumulator := 0, heldClaim := none
        incident := number, incidentOpen := true, timerPhase := .idle, timerLeft := 0 }
    let backedOff (r : District) (step : Nat) : District :=
      { r with
        state := .backoff, backoffStep := step, timerPhase := .backoff
        timerLeft := min (r.config.backoffBase * 2 ^ (step - 1)) r.config.backoffCap * 10 * 1152 }
    let z :=
      if y.state = .energized then backedOff { r with attemptsLeft := y.config.retryBudget } 1
      else if y.attemptsLeft = 0 then { r with state := .lockout }
      else backedOff r (min (y.backoffStep + 1) 15)
    let run :=
      [districtCounter d .trips] ++ (if cause = .hard then [districtCounter d .hardTrips] else [])
        ++ (if z.state = .lockout then [districtCounter d .lockouts] else [])
    ∃ t, exec (.sample d value beyond) s = .next t ∧
      Closes
        { (s.setFeed f
            { s.feed f with heldSum := (s.feed f).heldSum - y.heldClaim.getD 0 }).setDistrict d z with
          nextIncident := following
          bank := countedBank s run }
        [] (runNotices s run ++ [.trip d number cause z.state value.toNat beyond]) t

/-- The backoff length for step 1 to 15, in milliseconds: the smaller of B × 2 to the power of the step less
1 and Bmax, times 10, the product formed in full; for a configuration in range it is from 10 to 60,000 ms,
and it never falls as the step rises (R55). -/
def Obligations.BackoffLength : Prop :=
  ∀ (c : DistrictConfig) (step : Nat), 1 ≤ step → step ≤ 15 →
    backoffMs c step = min (c.backoffBase * 2 ^ (step - 1)) c.backoffCap * 10 ∧
    backoffMs c step ≤ backoffMs c (step + 1) ∧
    (ConfigInRange c → 10 ≤ backoffMs c step ∧ backoffMs c step ≤ 60000 ∧
      backoffMs c 1 = c.backoffBase * 10)

/-! ### Expiries -/

/-- A settle expiry: the claim returns to the feed, the observed peak is written where learn peak is on, and
the district enters Proving; with a proving time of 0 the proving expiry is made in the same step (R40, R47,
R49). There is no expiry before the settle timer of a district in Settling has reached 0 (R14; that the
command then changes nothing is log entry 4). -/
def Obligations.SettleExpiry : Prop :=
  ∀ (s : State) (d : DistrictNo), s.held = false →
    let x := s.district d
    let f := x.config.feed
    let s₁ := s.setFeed f { s.feed f with heldSum := (s.feed f).heldSum - x.heldClaim.getD 0 }
    let peak :=
      if x.config.learnPeak then some (min ((x.peakInSettle + 9) / 10) 250) else x.observedPeak
    (x.state = .settling → x.timerPhase = .settle → x.timerLeft = 0 → x.config.provingTime ≠ 0 →
      ∃ t, exec (.settleExpiry d) s = .next t ∧
        Closes
          (s₁.setDistrict d
            { x with
              state := .proving, heldClaim := none, observedPeak := peak, timerPhase := .proving
              timerLeft := x.config.provingTime * 100 * 1152 }) [] [] t) ∧
    (x.state = .settling → x.timerPhase = .settle → x.timerLeft = 0 → x.config.provingTime = 0 →
      ∃ t, exec (.settleExpiry d) s = .next t ∧
        Closes
          (s₁.setDistrict d
            { x with
              state := .energized, heldClaim := none, observedPeak := peak, timerPhase := .idle
              timerLeft := 0, attemptsLeft := x.config.retryBudget, backoffStep := 0, incident := 0
              incidentOpen := false })
          [] [.proven d x.incident (x.config.retryBudget - x.attemptsLeft)] t) ∧
    (x.state ≠ .settling ∨ x.timerPhase ≠ .settle ∨ x.timerLeft ≠ 0 → exec (.settleExpiry d) s = .next s)

/-- A proving expiry: Energized, with a Proven notice that carries the incident before its closing and the
attempts used, the attempts reloaded and the incident closed (R49, R62). There is no expiry before the proving
timer of a district in Proving has reached 0 (R14; that the command then changes nothing is log entry 4). -/
def Obligations.ProvingExpiry : Prop :=
  ∀ (s : State) (d : DistrictNo), s.held = false →
    let x := s.district d
    (x.state = .proving → x.timerPhase = .proving → x.timerLeft = 0 →
      ∃ t, exec (.provingExpiry d) s = .next t ∧
        Closes
          (s.setDistrict d
            { x with
              state := .energized, timerPhase := .idle, timerLeft := 0
              attemptsLeft := x.config.retryBudget, backoffStep := 0, incident := 0
              incidentOpen := false })
          [] [.proven d x.incident (x.config.retryBudget - x.attemptsLeft)] t) ∧
    (x.state ≠ .proving ∨ x.timerPhase ≠ .proving ∨ x.timerLeft ≠ 0 → exec (.provingExpiry d) s = .next s)

/-- A backoff expiry returns the district to Ready and changes nothing else (R56), and a pulse expiry stops
the pulse timer (R112). Neither comes before its timer has reached 0, so a pulse that a later beat restarted
goes on (R14, R112; that the command then changes nothing is log entry 4). -/
def Obligations.BackoffAndPulseExpiry : Prop :=
  ∀ s : State, s.held = false →
    (∀ d : DistrictNo,
      let x := s.district d
      (x.state = .backoff → x.timerPhase = .backoff → x.timerLeft = 0 →
        ∃ t, exec (.backoffExpiry d) s = .next t ∧
          Closes (s.setDistrict d { x with state := .ready, timerPhase := .idle, timerLeft := 0 })
            [] [] t) ∧
      (x.state ≠ .backoff ∨ x.timerPhase ≠ .backoff ∨ x.timerLeft ≠ 0 → exec (.backoffExpiry d) s = .next s)) ∧
    (s.beats.pulseTimer = some 0 →
      ∃ t, exec .pulseExpiry s = .next t ∧
        Closes { s with beats := { s.beats with pulseTimer := none } } [] [] t) ∧
    (s.beats.pulseTimer ≠ some 0 → exec .pulseExpiry s = .next s)

/-! ### The link -/

/-- A frame received byte by byte from hunting does exactly what the arrival of the whole frame does: the
receiver reads back from the line the kind, tag and body that were sent (R134 to R138). The stop bits make
no difference (R133). That a request row is the arrival of a whole frame is log entry 6, and that a byte is
taken at the end of its character log entry 7. -/
def Obligations.FrameReceivedByteByByte : Prop :=
  ∀ (s : State) (i : Instr) (f : Frame) (stop : Byte → Level), i.frame? = some f →
    f.body.length ≤ 60 → s.held = false → LinkSettled s → LevelsFollow s →
    s.link.receiver = .hunting → s.link.gapTimer = .stopped →
    ∃ t, runCommands ((frameBytes f).map fun b => .receiveByte b (stop b)) s = some t ∧
      exec i s = .next t

/-- The receiver, byte by byte: what it does with a byte in each of its states, with the gap timer
restarted inside a frame and stopped outside, the discards counted with their causes (R135 to R139), and a
gap expiry inside a frame once the gap timer has run out, or the character it waited for has not come, and in
every other case (R136). When a character begins is a free value (log entry 7), and that an expiry which does
not occur changes nothing is log entry 4. What a good frame does at its check byte is
FrameReceivedByteByByte. -/
def Obligations.ReceiverSteps : Prop :=
  ∀ (s : State) (b : Byte) (stop : Level), s.held = false → LinkSettled s → LevelsFollow s →
    let l := s.link
    let waits (r : Receiver) : State :=
      { s with link := { l with receiver := r, gapTimer := .running (5 * 1152) } }
    let discards (cause : DiscardCause) : State :=
      { s with link :=
        { l with
          receiver := .hunting, gapTimer := .stopped, tally := min (l.tally + 1) 255
          lastCause := some cause } }
    (l.receiver = .hunting → b = 0xC5 →
      exec (.receiveByte b stop) s = .next (waits .awaitingLength)) ∧
    (l.receiver = .hunting → l.gapTimer = .stopped → b ≠ 0xC5 →
      exec (.receiveByte b stop) s = .next (discards .noise)) ∧
    (l.receiver = .awaitingLength → 2 ≤ b.toNat → b.toNat ≤ 62 →
      exec (.receiveByte b stop) s = .next (waits (.collecting b.toNat []))) ∧
    (l.receiver = .awaitingLength → b.toNat < 2 ∨ 63 ≤ b.toNat →
      exec (.receiveByte b stop) s = .next (discards .length)) ∧
    (∀ n stored, l.receiver = .collecting n stored → stored.length < n →
      exec (.receiveByte b stop) s = .next (waits (.collecting n (stored ++ [b])))) ∧
    (∀ n stored, l.receiver = .collecting n stored → stored.length = n →
      (BitVec.ofNat 8 n + (stored ++ [b]).sum ≠ 0) →
      exec (.receiveByte b stop) s = .next (discards .check)) ∧
    (l.receiver ≠ .hunting → l.gapTimer = .running 0 ∨ l.gapTimer = .awaitingEnd 0 →
      exec .gapExpiry s = .next (discards .gap)) ∧
    (l.receiver = .hunting ∨ (l.gapTimer ≠ .running 0 ∧ l.gapTimer ≠ .awaitingEnd 0) →
      exec .gapExpiry s = .next s)

/-- The end of a transmission frees the transmitter, which makes its next choice (R144). Where a request
waited for a full reply queue, the reply that begins on the line makes room, and that request is taken in
the same step (R140). There is no end before the last stop bit has been sent (R143; that the command then
changes nothing is log entry 4). -/
def Obligations.TransmissionEndGoesOn : Prop :=
  ∀ s : State, s.held = false →
    ((∀ x, s.link.sending = some x → x.left ≠ 0) → exec .transmissionEnd s = .next s) ∧
    (∀ x, s.link.sending = some x → x.left = 0 → x.softReset = false →
      (s.link.receiveBuffer = [] ∨ s.link.resetPending = true →
        ∃ t, exec .transmissionEnd s = .next t ∧
          Closes { s with link := { s.link with sending := none } } [] [] t) ∧
      (∀ f more r rest, s.link.receiveBuffer = f :: more → s.link.resetPending = false →
        s.link.replyQueue = r :: rest → rest.length = 3 →
        let v : State :=
          { s with link :=
            { s.link with
              receiveBuffer := more, replyQueue := rest
              sending := some
                ⟨frameBytes r.frame, r.softReset, lineTicks s.link.rate (frameBytes r.frame)⟩ } }
        ∃ t, exec .transmissionEnd s = .next t ∧
          Closes (answer f v).state [replyTo f (answer f v)] [] t))

/-- What the transmit line carries. Its level: the characters of the frame being sent, each a low start bit,
the data bits from the least significant on and a high stop bit, ten bit times of 1/57,600 s or 1/230,400 s,
and high while the transmitter is free (R133; a tick is 1/1152 ms, log entry 2). The frame of a notice: its
kind, tag 0, the header with the lost bit, and the fields of each kind in the layout of section 10.7 (R167,
R172); ReceiverSteps and FrameReceivedByteByByte say how a frame is read back. -/
def Obligations.LineCarriesTheFrame : Prop :=
  (Config.bitTicks .baud57600 * 57600 = 1152 * 1000 ∧
    Config.bitTicks .baud230400 * 230400 = 1152 * 1000) ∧
  (∀ (rate : LinkRate) (bytes : List Byte),
    lineTicks rate bytes = bytes.length * (10 * Config.bitTicks rate)) ∧
  (∀ s : State,
    (s.link.sending = none → transmitLine s = .high) ∧
    ∀ (x : Transmission) (i j r : Nat), s.link.sending = some x → i < x.bytes.length → j < 10 →
      r < Config.bitTicks s.link.rate →
      x.left = (10 * (x.bytes.length - i) - j) * Config.bitTicks s.link.rate - r →
      transmitLine s =
        if j = 0 then .low
        else if j = 9 then .high
        else if (x.bytes.getD i 0).getLsbD (j - 1) then .high else .low) ∧
  ∀ (lost : Bool) (d : DistrictNo) (f : FeedNo) (i : CounterIx) (n v : Nat) (beyond loss : Bool),
    let header : Byte := if lost then 1 else 0
    let low (k : Nat) : Byte := BitVec.ofNat 8 k
    let high (k : Nat) : Byte := BitVec.ofNat 8 (k / 256)
    let district : Byte := BitVec.ofNat 8 d.val
    (∀ (cause : TripCause) (entered : DistrictState) (code : Byte),
      entered = .backoff ∧ code = 1 ∨ entered = .lockout ∧ code = 6 →
      noticeFrame ⟨.trip d n cause entered v beyond, lost⟩ =
        ⟨0x60, 0, [header, district, low n, high n, if cause = .hard then 2 else 1, code, low v, high v,
          if beyond then 1 else 0]⟩) ∧
    (∀ p : Polarity, noticeFrame ⟨.flip d p, lost⟩ =
      ⟨0x61, 0, [header, district, if p = .reversed then 1 else 0]⟩) ∧
    noticeFrame ⟨.launch d n v loss, lost⟩ =
      ⟨0x62, 0, [header, district, low n, high n, low v, if loss then 1 else 0]⟩ ∧
    noticeFrame ⟨.proven d n v, lost⟩ = ⟨0x63, 0, [header, district, low n, high n, low v]⟩ ∧
    (∀ (state : FeedState) (code : Byte),
      state = .normal ∧ code = 0 ∨ state = .suspended ∧ code = 1 →
      noticeFrame ⟨.feed f state, lost⟩ = ⟨0x64, 0, [header, BitVec.ofNat 8 f.val, code]⟩) ∧
    ∀ mark : AttentionMark, noticeFrame ⟨.counter i mark, lost⟩ =
      ⟨0x65, 0, [header, BitVec.ofNat 8 i.val, if mark = .full then 2 else 1]⟩

/-! ### Resets -/

/-- The soft reset, at the end of the Reset reply's last byte: every block takes its soft-reset values, and
the transmitter is free (R20, R84, R113, R124, R132, R145, R166, R168). TRANSMISSION_END of that reply is the
same event (log entry 8). Before the last stop bit of that reply has been sent SOFT_RESET changes nothing (log
entry 4). -/
def Obligations.SoftResetAtReplyEnd : Prop :=
  ∀ s : State, s.held = false →
    (∀ x, s.link.sending = some x → x.left = 0 → x.softReset = true →
      let u : State :=
        { s with
          districts := tabulate fun d =>
            { s.district d with
              state := .off, switchClosed := false, polarity := .normal, timerPhase := .idle
              timerLeft := 0, attemptsLeft := 0, backoffStep := 0, incident := 0, incidentOpen := false
              holdMark := false, feedLossMark := false, heldClaim := none, lastTripCause := none
              peakInSettle := 0, accumulator := 0, flipArmed := false, guardRun := 0 }
          nextIncident := 1
          feeds := tabulate fun f =>
            let read := readFault (s.feed f).faultLevel s.pins.faultInput[f.val]
            { s.feed f with
              heldSum := 0, resumeTimer := none, lineLevel := read
              state := if read = .asserted then .suspended else .normal }
          rotation := 23
          beats :=
            { s.beats with
              lastBeat := none, pulseTimer := none
              intervalTimer :=
                if s.beats.mode = .internal then some (s.beats.interval * 1152) else none }
          lines := tabulate fun _ => ⟨.constantLow, false, .low⟩
          notices := { s.notices with entries := [], lost := false }
          link := { s.link with sending := none, receiveBuffer := [], resetPending := false } }
      (∃ t, exec .softReset s = .next t ∧ Closes u [] [] t) ∧
      ∃ t, exec .transmissionEnd s = .next t ∧ Closes u [] [] t) ∧
    ((∀ x, s.link.sending = some x → x.left ≠ 0 ∨ x.softReset = false) → exec .softReset s = .next s)

/-- A falling edge of the reset input, and a loss of supply, put every block at its hard-reset values at
once and hold it there (R174, R177); a reset input that is low already does not fall (log entry 4). That a
loss of supply does so at once, and not at the next power-up, is log entry 10, and that the link rate stays
as read until the reset ends is log entry 11. -/
def Obligations.HardResetAndLossOfSupply : Prop :=
  ∀ s : State,
    (s.pins.resetInput = .high →
      ∃ t, exec .hardReset s = .next t ∧ AtHardReset t ∧ SameSurroundings s t ∧
        t.beats.intervalTimer = none ∧ t.link.rate = s.link.rate ∧
        t.pins = { s.pins with resetInput := .low } ∧ t.held = true) ∧
    (s.pins.resetInput = .low → exec .hardReset s = .next s) ∧
    ∃ t, exec .lossOfSupply s = .next t ∧ AtHardReset t ∧ SameSurroundings s t ∧
      t.beats.intervalTimer = none ∧ t.pins = { s.pins with supplyUp := false } ∧ t.held = true

/-- The end of a hard reset, by the release of the reset input or by power-up completion, whichever comes
last: the rate strap is read, each feed takes its line level and state from its fault input under
active-low, the interval timer starts at 200 ms, and everything else stands at its hard-reset value (R84,
R113, R133, R176, R177). That the command carries the rate the strap chooses is log entry 11, and that
RESET_END with the input high and POWER_UP with the supply up change nothing is log entry 4. -/
def Obligations.ResetEndAndPowerUp : Prop :=
  ∀ (s : State) (strap : LinkRate), HeldAtReset s →
    let ended (pins : Pins) (t : State) : Prop :=
      AtHardReset t ∧ SameSurroundings s t ∧ t.pins = pins ∧ t.held = false ∧
      t.link.rate = strap ∧ t.beats.intervalTimer = some (200 * 1152) ∧
      ∀ f : FeedNo,
        (t.feed f).lineLevel = (if s.pins.faultInput[f.val] = .low then .asserted else .released) ∧
        (t.feed f).state = if s.pins.faultInput[f.val] = .low then .suspended else .normal
    let released : Pins := { s.pins with resetInput := .high }
    let supplied : Pins := { s.pins with supplyUp := true }
    (s.pins.resetInput = .low → s.pins.supplyUp = true →
      ∃ t, exec (.resetEnd strap) s = .next t ∧ ended released t) ∧
    (s.pins.resetInput = .low → s.pins.supplyUp = false →
      exec (.resetEnd strap) s = .next { s with pins := released }) ∧
    (s.pins.resetInput = .high → exec (.resetEnd strap) s = .next s) ∧
    (s.pins.supplyUp = false → s.pins.resetInput = .high →
      ∃ t, exec (.powerUp strap) s = .next t ∧ ended supplied t) ∧
    (s.pins.supplyUp = false → s.pins.resetInput = .low →
      exec (.powerUp strap) s = .next { s with pins := supplied }) ∧
    (s.pins.supplyUp = true → exec (.powerUp strap) s = .next s)

/-! ### The Recovery Scheduler -/

/-- The four conditions of a candidate, the parent gate counted as open too where the parent is a candidate
of the same synchronized group (R88, R89). -/
def Obligations.CandidateConditions : Prop :=
  ∀ (s : State) (d : DistrictNo), ParentsAcyclic s →
    let x := s.district d
    (candidate s d = true ↔
      x.state = .ready ∧ x.holdMark = false ∧ (s.feed x.config.feed).state = .normal ∧
      ∀ p, x.config.parent = some p →
        (s.district p).state = .proving ∨ (s.district p).state = .energized ∨
        ∃ g, x.config.group = some g ∧ (s.district p).config.group = some g ∧
          s.groupMode g = .synchronized ∧ candidate s p = true)

/-- The walk order of a beat: exactly the candidates, each once, by priority and within one priority in the
cyclic order that starts after the rotation pointer and ends with it (R91). -/
def Obligations.WalkOrder : Prop :=
  ∀ s : State, (∀ d, ConfigInRange (s.district d).config) →
    let place (d : DistrictNo) : Nat := (d - s.rotation - 1).val
    let priority (d : DistrictNo) : Nat := (s.district d).config.priority
    (∀ d, d ∈ walkOrder s ↔ candidate s d = true) ∧
    (walkOrder s).Pairwise fun d e =>
      priority d < priority e ∨ (priority d = priority e ∧ place d < place e)

/-- A beat launches the candidates that fit, and no other district. A candidate in no group or in an
as-available group is launched exactly where the walk finds its feed without the blocked mark, under its
launch width, and with its effective claim at or below the free budget (R92); for a synchronized group see
SynchronizedGroupAllOrNone. A launch changes of the record just what R36 and R46 say, and every other record
stands; the rotation pointer becomes the launched district that stands latest in the walk order, if one was
launched (R87, R99). A beat touches the district and feed records, the pointer, the counter values and marks
and the notice queue alone. -/
def Obligations.BeatLaunchesTheCandidatesThatFit : Prop :=
  ∀ s : State,
    (∀ d ∈ walkOrder s, onItsOwn s d = true →
      let f := (s.district d).config.feed
      (launchedAt s d = true ↔
        blockedBefore s (turn s d) f = false ∧
        countBefore s (turn s d) f < (s.feed f).launchWidth ∧ claimOf s d ≤ freeBefore s (turn s d) f)) ∧
    (∀ d : DistrictNo,
      let x := s.district d
      if launchedAt s d then
        d ∈ walkOrder s ∧ candidate s d = true ∧
        (takeBeat s).district d =
          { x with
            state := .settling, switchClosed := true, timerPhase := .settle
            timerLeft := x.config.settleTime * 1152, attemptsLeft := x.attemptsLeft - 1
            heldClaim := some (claimOf s d), feedLossMark := false, peakInSettle := 0, accumulator := 0
            flipArmed := true, guardRun := 0 }
      else (takeBeat s).district d = x) ∧
    ((∀ d, launchedAt s d = false) → (takeBeat s).rotation = s.rotation) ∧
    (∀ a d b, walkOrder s = a ++ d :: b → launchedAt s d = true → (∀ e ∈ b, launchedAt s e = false) →
      (takeBeat s).rotation = d) ∧
    takeBeat s =
      { s with
        districts := (takeBeat s).districts, feeds := (takeBeat s).feeds
        rotation := (takeBeat s).rotation, notices := (takeBeat s).notices
        bank := { s.bank with counters := (takeBeat s).bank.counters } }

/-- At one beat no feed launches more districts than its launch width, and the claims of those it launches
fit the free budget it had; they are added to its held sum, and nothing else of a feed changes (R70, R90,
R92, R95). -/
def Obligations.LaunchesWithinWidthAndBudget : Prop :=
  ∀ (s : State) (f : FeedNo),
    let here := allDistricts.filter fun d => launchedAt s d && ((s.district d).config.feed == f)
    let claims := (here.map (claimOf s)).sum
    here.length ≤ (s.feed f).launchWidth ∧ claims ≤ (s.feed f).allowance - (s.feed f).heldSum ∧
    (takeBeat s).feed f = { s.feed f with heldSum := (s.feed f).heldSum + claims }

/-- The launches of a synchronized group. Its members that are candidates are launched exactly where the group
does not wait and, on each feed that has some of them, the feed is not blocked, the launch width takes them
all, and their claims fit the free budget together (R94, R95). So where one member is launched, no member is
in Backoff, and every member that is in Ready is launched with it. -/
def Obligations.SynchronizedGroupAllOrNone : Prop :=
  ∀ (s : State) (g : GroupNo) (d : DistrictNo),
    s.groupMode g = .synchronized → (s.district d).config.group = some g →
    (d ∈ walkOrder s → (launchedAt s d = true ↔
      groupWaits s g = false ∧ ∀ f : FeedNo, groupFitsOn s (turn s d) g f = true)) ∧
    ∀ e : DistrictNo, (∀ d, ConfigInRange (s.district d).config) →
      (s.district e).config.group = some g → launchedAt s d = true →
      (s.district e).state ≠ .backoff ∧ ((s.district e).state = .ready → launchedAt s e = true)

/-- No overtaking: where a candidate on its own is not launched on feed `f`, or a synchronized group that does
not wait fails a test of R95 there, no candidate of `f` decided later in the walk is launched, neither one on
its own nor any member of a synchronized group that has a candidate on `f` (R92, R93, R95, R96). -/
def Obligations.NoOvertaking : Prop :=
  ∀ (s : State) (f : FeedNo) (d e : DistrictNo), d ∈ walkOrder s → e ∈ walkOrder s →
    turn s d < turn s e →
    (onItsOwn s d = true ∧ (s.district d).config.feed = f ∧ launchedAt s d = false) ∨
      (∃ g, inSync s g d = true ∧ groupWaits s g = false ∧ groupFitsOn s (turn s d) g f = false) →
    (onItsOwn s e = true ∧ (s.district e).config.feed = f) ∨
      (∃ g, inSync s g e = true ∧ membersOn s g f ≠ []) →
    launchedAt s e = false

/-- The counters a beat moves and the notices it hands. The Launches counter of each district it launches goes
up by one increment (R46), and the Budget waits counter of a feed by one exactly where a candidate on its own
or a synchronized group fails the budget there (R93, R96, R115); every other counter stands. The notices are
those of each decision in walk order: for each launch the Counter notices of its increment and then the Launch
notice, with incident, claim and the feed-loss mark before the launch cleared it, and for a budget failure the
Counter notices of that increment (R98, R119, R169). -/
def Obligations.BeatCountsAndNotices : Prop :=
  ∀ s : State,
    let bumped (i : CounterIx) : Counter := (countUp s.bank.mode (s.counter i)).1
    (∀ d : DistrictNo,
      (takeBeat s).counter (districtCounter d .launches) =
        (if launchedAt s d then bumped (districtCounter d .launches)
          else s.counter (districtCounter d .launches)) ∧
      ∀ k : DistrictCounter, k ≠ .launches →
        (takeBeat s).counter (districtCounter d k) = s.counter (districtCounter d k)) ∧
    (∀ f : FeedNo,
      (takeBeat s).counter (feedCounter f .feedFaults) = s.counter (feedCounter f .feedFaults) ∧
      (takeBeat s).counter (feedCounter f .budgetWaits) =
        if (walkOrder s).any fun d => budgetFailsAt s d f then bumped (feedCounter f .budgetWaits)
        else s.counter (feedCounter f .budgetWaits)) ∧
    (takeBeat s).notices = handAll ((walkOrder s).flatMap (decisionNotices s)) s.notices

/-! ### What every step keeps -/

/-- The machine after reset, with the lines as log entry 1 chooses them, meets the invariant. -/
def Obligations.InvAtReset : Prop := Inv State.reset

/-- Every step keeps the district records within the laws of chapters 1 to 3: ranges, the table of R12, the
attempts, the incidents, the marks and the detector's values, and no cycle of parents (R2, R4, R10, R12 to
R18, R25). -/
def Obligations.DistrictLawsKept : Prop :=
  ∀ s t : State, Inv s → step s = .next t →
    (∀ d, DistrictOk (t.district d)) ∧ ParentsAcyclic t ∧ NumberingOk t

/-- Every step keeps the laws of the feeds: the held sum is the total of the held claims and never exceeds
the allowance (R70), no district of a feed that is not Normal is powered (R77), and each feed's state and
line level go together and follow the fault input (R68, R73). -/
def Obligations.FeedLawsKept : Prop :=
  ∀ s t : State, Inv s → step s = .next t →
    (∀ f, FeedOk (t.feed f)) ∧ BudgetKept t ∧ DownFeedsUnpowered t ∧ LineLevelsRead t

/-- Every step keeps the Beat Generator, the counters, the queues and the receiver within their laws, every
status output at its source's value, and the Link Interface settled: a free transmitter finds nothing to
send, and no request waits that could be taken (R106, R114, R125, R129, R136 to R140, R143 to R145, R168,
R174). That the feed records stand at Normal and released while the part is held in hard reset, which the
last clause says too, is the model's choice (log entry 9), and that what can be taken or sent is so in the
same step is log entry 5. -/
def Obligations.LinkAndLineLawsKept : Prop :=
  ∀ s t : State, Inv s → step s = .next t →
    BeatsOk t ∧ CountersInRange t ∧ LevelsFollow t ∧ QueuesBounded t ∧ ReceiverOk t ∧ LinkSettled t ∧
    ResetReplyLast t ∧ HeldAtReset t
end

