-- ==== Sys2Proof/Laws/State.lean ====
section
/-! SUPPORT. What each update of the state does to each part of it: one lemma a part and update, so that no
proof unfolds a record update. -/

namespace Sys2Proof.Machine

/-- Reading a tabulated vector. -/
@[simp] theorem tabulate_getElem {α : Type} {n : Nat} (f : Fin n → α) (i : Nat) (h : i < n) :
    (tabulate f)[i] = f ⟨i, h⟩ := by
  unfold tabulate
  simp

variable (s : State)

/-! ### setDistrict -/

@[simp] theorem State.setDistrict_districts (d : DistrictNo) (x : District) :
    (s.setDistrict d x).districts = s.districts.set d.val x := rfl

@[simp] theorem State.setDistrict_nextIncident (d : DistrictNo) (x : District) :
    (s.setDistrict d x).nextIncident = s.nextIncident := rfl

@[simp] theorem State.setDistrict_incidentWrap (d : DistrictNo) (x : District) :
    (s.setDistrict d x).incidentWrap = s.incidentWrap := rfl

@[simp] theorem State.setDistrict_feeds (d : DistrictNo) (x : District) :
    (s.setDistrict d x).feeds = s.feeds := rfl

@[simp] theorem State.setDistrict_rotation (d : DistrictNo) (x : District) :
    (s.setDistrict d x).rotation = s.rotation := rfl

@[simp] theorem State.setDistrict_groupModes (d : DistrictNo) (x : District) :
    (s.setDistrict d x).groupModes = s.groupModes := rfl

@[simp] theorem State.setDistrict_beats (d : DistrictNo) (x : District) :
    (s.setDistrict d x).beats = s.beats := rfl

@[simp] theorem State.setDistrict_bank (d : DistrictNo) (x : District) :
    (s.setDistrict d x).bank = s.bank := rfl

@[simp] theorem State.setDistrict_lines (d : DistrictNo) (x : District) :
    (s.setDistrict d x).lines = s.lines := rfl

@[simp] theorem State.setDistrict_notices (d : DistrictNo) (x : District) :
    (s.setDistrict d x).notices = s.notices := rfl

@[simp] theorem State.setDistrict_link (d : DistrictNo) (x : District) :
    (s.setDistrict d x).link = s.link := rfl

@[simp] theorem State.setDistrict_pins (d : DistrictNo) (x : District) :
    (s.setDistrict d x).pins = s.pins := rfl

@[simp] theorem State.setDistrict_now (d : DistrictNo) (x : District) :
    (s.setDistrict d x).now = s.now := rfl

@[simp] theorem State.setDistrict_choices (d : DistrictNo) (x : District) :
    (s.setDistrict d x).choices = s.choices := rfl

@[simp] theorem State.setDistrict_pending (d : DistrictNo) (x : District) :
    (s.setDistrict d x).pending = s.pending := rfl

@[simp] theorem State.setDistrict_feed (d : DistrictNo) (x : District) (e : FeedNo) :
    (s.setDistrict d x).feed e = s.feed e := rfl

@[simp] theorem State.setDistrict_counter (d : DistrictNo) (x : District) (e : CounterIx) :
    (s.setDistrict d x).counter e = s.counter e := rfl

@[simp] theorem State.setDistrict_groupMode (d : DistrictNo) (x : District) (e : GroupNo) :
    (s.setDistrict d x).groupMode e = s.groupMode e := rfl

@[simp] theorem State.setDistrict_line (d : DistrictNo) (x : District) (e : LineNo) :
    (s.setDistrict d x).line e = s.line e := rfl

@[simp] theorem State.setDistrict_held (d : DistrictNo) (x : District) :
    (s.setDistrict d x).held = s.held := rfl


/-! ### mapDistricts -/

@[simp] theorem State.mapDistricts_districts (g : DistrictNo → District → District) :
    (s.mapDistricts g).districts = tabulate fun d => g d (s.district d) := rfl

@[simp] theorem State.mapDistricts_nextIncident (g : DistrictNo → District → District) :
    (s.mapDistricts g).nextIncident = s.nextIncident := rfl

@[simp] theorem State.mapDistricts_incidentWrap (g : DistrictNo → District → District) :
    (s.mapDistricts g).incidentWrap = s.incidentWrap := rfl

@[simp] theorem State.mapDistricts_feeds (g : DistrictNo → District → District) :
    (s.mapDistricts g).feeds = s.feeds := rfl

@[simp] theorem State.mapDistricts_rotation (g : DistrictNo → District → District) :
    (s.mapDistricts g).rotation = s.rotation := rfl

@[simp] theorem State.mapDistricts_groupModes (g : DistrictNo → District → District) :
    (s.mapDistricts g).groupModes = s.groupModes := rfl

@[simp] theorem State.mapDistricts_beats (g : DistrictNo → District → District) :
    (s.mapDistricts g).beats = s.beats := rfl

@[simp] theorem State.mapDistricts_bank (g : DistrictNo → District → District) :
    (s.mapDistricts g).bank = s.bank := rfl

@[simp] theorem State.mapDistricts_lines (g : DistrictNo → District → District) :
    (s.mapDistricts g).lines = s.lines := rfl

@[simp] theorem State.mapDistricts_notices (g : DistrictNo → District → District) :
    (s.mapDistricts g).notices = s.notices := rfl

@[simp] theorem State.mapDistricts_link (g : DistrictNo → District → District) :
    (s.mapDistricts g).link = s.link := rfl

@[simp] theorem State.mapDistricts_pins (g : DistrictNo → District → District) :
    (s.mapDistricts g).pins = s.pins := rfl

@[simp] theorem State.mapDistricts_now (g : DistrictNo → District → District) :
    (s.mapDistricts g).now = s.now := rfl

@[simp] theorem State.mapDistricts_choices (g : DistrictNo → District → District) :
    (s.mapDistricts g).choices = s.choices := rfl

@[simp] theorem State.mapDistricts_pending (g : DistrictNo → District → District) :
    (s.mapDistricts g).pending = s.pending := rfl

@[simp] theorem State.mapDistricts_feed (g : DistrictNo → District → District) (e : FeedNo) :
    (s.mapDistricts g).feed e = s.feed e := rfl

@[simp] theorem State.mapDistricts_counter (g : DistrictNo → District → District) (e : CounterIx) :
    (s.mapDistricts g).counter e = s.counter e := rfl

@[simp] theorem State.mapDistricts_groupMode (g : DistrictNo → District → District) (e : GroupNo) :
    (s.mapDistricts g).groupMode e = s.groupMode e := rfl

@[simp] theorem State.mapDistricts_line (g : DistrictNo → District → District) (e : LineNo) :
    (s.mapDistricts g).line e = s.line e := rfl

@[simp] theorem State.mapDistricts_held (g : DistrictNo → District → District) :
    (s.mapDistricts g).held = s.held := rfl


/-! ### setFeed -/

@[simp] theorem State.setFeed_districts (f : FeedNo) (x : Feed) :
    (s.setFeed f x).districts = s.districts := rfl

@[simp] theorem State.setFeed_nextIncident (f : FeedNo) (x : Feed) :
    (s.setFeed f x).nextIncident = s.nextIncident := rfl

@[simp] theorem State.setFeed_incidentWrap (f : FeedNo) (x : Feed) :
    (s.setFeed f x).incidentWrap = s.incidentWrap := rfl

@[simp] theorem State.setFeed_feeds (f : FeedNo) (x : Feed) :
    (s.setFeed f x).feeds = s.feeds.set f.val x := rfl

@[simp] theorem State.setFeed_rotation (f : FeedNo) (x : Feed) :
    (s.setFeed f x).rotation = s.rotation := rfl

@[simp] theorem State.setFeed_groupModes (f : FeedNo) (x : Feed) :
    (s.setFeed f x).groupModes = s.groupModes := rfl

@[simp] theorem State.setFeed_beats (f : FeedNo) (x : Feed) :
    (s.setFeed f x).beats = s.beats := rfl

@[simp] theorem State.setFeed_bank (f : FeedNo) (x : Feed) :
    (s.setFeed f x).bank = s.bank := rfl

@[simp] theorem State.setFeed_lines (f : FeedNo) (x : Feed) :
    (s.setFeed f x).lines = s.lines := rfl

@[simp] theorem State.setFeed_notices (f : FeedNo) (x : Feed) :
    (s.setFeed f x).notices = s.notices := rfl

@[simp] theorem State.setFeed_link (f : FeedNo) (x : Feed) :
    (s.setFeed f x).link = s.link := rfl

@[simp] theorem State.setFeed_pins (f : FeedNo) (x : Feed) :
    (s.setFeed f x).pins = s.pins := rfl

@[simp] theorem State.setFeed_now (f : FeedNo) (x : Feed) :
    (s.setFeed f x).now = s.now := rfl

@[simp] theorem State.setFeed_choices (f : FeedNo) (x : Feed) :
    (s.setFeed f x).choices = s.choices := rfl

@[simp] theorem State.setFeed_pending (f : FeedNo) (x : Feed) :
    (s.setFeed f x).pending = s.pending := rfl

@[simp] theorem State.setFeed_district (f : FeedNo) (x : Feed) (e : DistrictNo) :
    (s.setFeed f x).district e = s.district e := rfl

@[simp] theorem State.setFeed_counter (f : FeedNo) (x : Feed) (e : CounterIx) :
    (s.setFeed f x).counter e = s.counter e := rfl

@[simp] theorem State.setFeed_groupMode (f : FeedNo) (x : Feed) (e : GroupNo) :
    (s.setFeed f x).groupMode e = s.groupMode e := rfl

@[simp] theorem State.setFeed_line (f : FeedNo) (x : Feed) (e : LineNo) :
    (s.setFeed f x).line e = s.line e := rfl

@[simp] theorem State.setFeed_held (f : FeedNo) (x : Feed) :
    (s.setFeed f x).held = s.held := rfl


/-! ### mapFeeds -/

@[simp] theorem State.mapFeeds_districts (g : FeedNo → Feed → Feed) :
    (s.mapFeeds g).districts = s.districts := rfl

@[simp] theorem State.mapFeeds_nextIncident (g : FeedNo → Feed → Feed) :
    (s.mapFeeds g).nextIncident = s.nextIncident := rfl

@[simp] theorem State.mapFeeds_incidentWrap (g : FeedNo → Feed → Feed) :
    (s.mapFeeds g).incidentWrap = s.incidentWrap := rfl

@[simp] theorem State.mapFeeds_feeds (g : FeedNo → Feed → Feed) :
    (s.mapFeeds g).feeds = tabulate fun f => g f (s.feed f) := rfl

@[simp] theorem State.mapFeeds_rotation (g : FeedNo → Feed → Feed) :
    (s.mapFeeds g).rotation = s.rotation := rfl

@[simp] theorem State.mapFeeds_groupModes (g : FeedNo → Feed → Feed) :
    (s.mapFeeds g).groupModes = s.groupModes := rfl

@[simp] theorem State.mapFeeds_beats (g : FeedNo → Feed → Feed) :
    (s.mapFeeds g).beats = s.beats := rfl

@[simp] theorem State.mapFeeds_bank (g : FeedNo → Feed → Feed) :
    (s.mapFeeds g).bank = s.bank := rfl

@[simp] theorem State.mapFeeds_lines (g : FeedNo → Feed → Feed) :
    (s.mapFeeds g).lines = s.lines := rfl

@[simp] theorem State.mapFeeds_notices (g : FeedNo → Feed → Feed) :
    (s.mapFeeds g).notices = s.notices := rfl

@[simp] theorem State.mapFeeds_link (g : FeedNo → Feed → Feed) :
    (s.mapFeeds g).link = s.link := rfl

@[simp] theorem State.mapFeeds_pins (g : FeedNo → Feed → Feed) :
    (s.mapFeeds g).pins = s.pins := rfl

@[simp] theorem State.mapFeeds_now (g : FeedNo → Feed → Feed) :
    (s.mapFeeds g).now = s.now := rfl

@[simp] theorem State.mapFeeds_choices (g : FeedNo → Feed → Feed) :
    (s.mapFeeds g).choices = s.choices := rfl

@[simp] theorem State.mapFeeds_pending (g : FeedNo → Feed → Feed) :
    (s.mapFeeds g).pending = s.pending := rfl

@[simp] theorem State.mapFeeds_district (g : FeedNo → Feed → Feed) (e : DistrictNo) :
    (s.mapFeeds g).district e = s.district e := rfl

@[simp] theorem State.mapFeeds_counter (g : FeedNo → Feed → Feed) (e : CounterIx) :
    (s.mapFeeds g).counter e = s.counter e := rfl

@[simp] theorem State.mapFeeds_groupMode (g : FeedNo → Feed → Feed) (e : GroupNo) :
    (s.mapFeeds g).groupMode e = s.groupMode e := rfl

@[simp] theorem State.mapFeeds_line (g : FeedNo → Feed → Feed) (e : LineNo) :
    (s.mapFeeds g).line e = s.line e := rfl

@[simp] theorem State.mapFeeds_held (g : FeedNo → Feed → Feed) :
    (s.mapFeeds g).held = s.held := rfl


/-! ### setCounter -/

@[simp] theorem State.setCounter_districts (i : CounterIx) (c : Counter) :
    (s.setCounter i c).districts = s.districts := rfl

@[simp] theorem State.setCounter_nextIncident (i : CounterIx) (c : Counter) :
    (s.setCounter i c).nextIncident = s.nextIncident := rfl

@[simp] theorem State.setCounter_incidentWrap (i : CounterIx) (c : Counter) :
    (s.setCounter i c).incidentWrap = s.incidentWrap := rfl

@[simp] theorem State.setCounter_feeds (i : CounterIx) (c : Counter) :
    (s.setCounter i c).feeds = s.feeds := rfl

@[simp] theorem State.setCounter_rotation (i : CounterIx) (c : Counter) :
    (s.setCounter i c).rotation = s.rotation := rfl

@[simp] theorem State.setCounter_groupModes (i : CounterIx) (c : Counter) :
    (s.setCounter i c).groupModes = s.groupModes := rfl

@[simp] theorem State.setCounter_beats (i : CounterIx) (c : Counter) :
    (s.setCounter i c).beats = s.beats := rfl

@[simp] theorem State.setCounter_bank (i : CounterIx) (c : Counter) :
    (s.setCounter i c).bank = { s.bank with counters := s.bank.counters.set i.val c } := rfl

@[simp] theorem State.setCounter_lines (i : CounterIx) (c : Counter) :
    (s.setCounter i c).lines = s.lines := rfl

@[simp] theorem State.setCounter_notices (i : CounterIx) (c : Counter) :
    (s.setCounter i c).notices = s.notices := rfl

@[simp] theorem State.setCounter_link (i : CounterIx) (c : Counter) :
    (s.setCounter i c).link = s.link := rfl

@[simp] theorem State.setCounter_pins (i : CounterIx) (c : Counter) :
    (s.setCounter i c).pins = s.pins := rfl

@[simp] theorem State.setCounter_now (i : CounterIx) (c : Counter) :
    (s.setCounter i c).now = s.now := rfl

@[simp] theorem State.setCounter_choices (i : CounterIx) (c : Counter) :
    (s.setCounter i c).choices = s.choices := rfl

@[simp] theorem State.setCounter_pending (i : CounterIx) (c : Counter) :
    (s.setCounter i c).pending = s.pending := rfl

@[simp] theorem State.setCounter_district (i : CounterIx) (c : Counter) (e : DistrictNo) :
    (s.setCounter i c).district e = s.district e := rfl

@[simp] theorem State.setCounter_feed (i : CounterIx) (c : Counter) (e : FeedNo) :
    (s.setCounter i c).feed e = s.feed e := rfl

@[simp] theorem State.setCounter_groupMode (i : CounterIx) (c : Counter) (e : GroupNo) :
    (s.setCounter i c).groupMode e = s.groupMode e := rfl

@[simp] theorem State.setCounter_line (i : CounterIx) (c : Counter) (e : LineNo) :
    (s.setCounter i c).line e = s.line e := rfl

@[simp] theorem State.setCounter_held (i : CounterIx) (c : Counter) :
    (s.setCounter i c).held = s.held := rfl


/-! ### setNotices -/

@[simp] theorem State.setNotices_districts (q : NoticeQueue) :
    (s.setNotices q).districts = s.districts := rfl

@[simp] theorem State.setNotices_nextIncident (q : NoticeQueue) :
    (s.setNotices q).nextIncident = s.nextIncident := rfl

@[simp] theorem State.setNotices_incidentWrap (q : NoticeQueue) :
    (s.setNotices q).incidentWrap = s.incidentWrap := rfl

@[simp] theorem State.setNotices_feeds (q : NoticeQueue) :
    (s.setNotices q).feeds = s.feeds := rfl

@[simp] theorem State.setNotices_rotation (q : NoticeQueue) :
    (s.setNotices q).rotation = s.rotation := rfl

@[simp] theorem State.setNotices_groupModes (q : NoticeQueue) :
    (s.setNotices q).groupModes = s.groupModes := rfl

@[simp] theorem State.setNotices_beats (q : NoticeQueue) :
    (s.setNotices q).beats = s.beats := rfl

@[simp] theorem State.setNotices_bank (q : NoticeQueue) :
    (s.setNotices q).bank = s.bank := rfl

@[simp] theorem State.setNotices_lines (q : NoticeQueue) :
    (s.setNotices q).lines = s.lines := rfl

@[simp] theorem State.setNotices_notices (q : NoticeQueue) :
    (s.setNotices q).notices = q := rfl

@[simp] theorem State.setNotices_link (q : NoticeQueue) :
    (s.setNotices q).link = s.link := rfl

@[simp] theorem State.setNotices_pins (q : NoticeQueue) :
    (s.setNotices q).pins = s.pins := rfl

@[simp] theorem State.setNotices_now (q : NoticeQueue) :
    (s.setNotices q).now = s.now := rfl

@[simp] theorem State.setNotices_choices (q : NoticeQueue) :
    (s.setNotices q).choices = s.choices := rfl

@[simp] theorem State.setNotices_pending (q : NoticeQueue) :
    (s.setNotices q).pending = s.pending := rfl

@[simp] theorem State.setNotices_district (q : NoticeQueue) (e : DistrictNo) :
    (s.setNotices q).district e = s.district e := rfl

@[simp] theorem State.setNotices_feed (q : NoticeQueue) (e : FeedNo) :
    (s.setNotices q).feed e = s.feed e := rfl

@[simp] theorem State.setNotices_counter (q : NoticeQueue) (e : CounterIx) :
    (s.setNotices q).counter e = s.counter e := rfl

@[simp] theorem State.setNotices_groupMode (q : NoticeQueue) (e : GroupNo) :
    (s.setNotices q).groupMode e = s.groupMode e := rfl

@[simp] theorem State.setNotices_line (q : NoticeQueue) (e : LineNo) :
    (s.setNotices q).line e = s.line e := rfl

@[simp] theorem State.setNotices_held (q : NoticeQueue) :
    (s.setNotices q).held = s.held := rfl


/-! ### setLink -/

@[simp] theorem State.setLink_districts (l : Link) :
    (s.setLink l).districts = s.districts := rfl

@[simp] theorem State.setLink_nextIncident (l : Link) :
    (s.setLink l).nextIncident = s.nextIncident := rfl

@[simp] theorem State.setLink_incidentWrap (l : Link) :
    (s.setLink l).incidentWrap = s.incidentWrap := rfl

@[simp] theorem State.setLink_feeds (l : Link) :
    (s.setLink l).feeds = s.feeds := rfl

@[simp] theorem State.setLink_rotation (l : Link) :
    (s.setLink l).rotation = s.rotation := rfl

@[simp] theorem State.setLink_groupModes (l : Link) :
    (s.setLink l).groupModes = s.groupModes := rfl

@[simp] theorem State.setLink_beats (l : Link) :
    (s.setLink l).beats = s.beats := rfl

@[simp] theorem State.setLink_bank (l : Link) :
    (s.setLink l).bank = s.bank := rfl

@[simp] theorem State.setLink_lines (l : Link) :
    (s.setLink l).lines = s.lines := rfl

@[simp] theorem State.setLink_notices (l : Link) :
    (s.setLink l).notices = s.notices := rfl

@[simp] theorem State.setLink_link (l : Link) :
    (s.setLink l).link = l := rfl

@[simp] theorem State.setLink_pins (l : Link) :
    (s.setLink l).pins = s.pins := rfl

@[simp] theorem State.setLink_now (l : Link) :
    (s.setLink l).now = s.now := rfl

@[simp] theorem State.setLink_choices (l : Link) :
    (s.setLink l).choices = s.choices := rfl

@[simp] theorem State.setLink_pending (l : Link) :
    (s.setLink l).pending = s.pending := rfl

@[simp] theorem State.setLink_district (l : Link) (e : DistrictNo) :
    (s.setLink l).district e = s.district e := rfl

@[simp] theorem State.setLink_feed (l : Link) (e : FeedNo) :
    (s.setLink l).feed e = s.feed e := rfl

@[simp] theorem State.setLink_counter (l : Link) (e : CounterIx) :
    (s.setLink l).counter e = s.counter e := rfl

@[simp] theorem State.setLink_groupMode (l : Link) (e : GroupNo) :
    (s.setLink l).groupMode e = s.groupMode e := rfl

@[simp] theorem State.setLink_line (l : Link) (e : LineNo) :
    (s.setLink l).line e = s.line e := rfl

@[simp] theorem State.setLink_held (l : Link) :
    (s.setLink l).held = s.held := rfl


/-! ### setBeats -/

@[simp] theorem State.setBeats_districts (b : BeatGenerator) :
    (s.setBeats b).districts = s.districts := rfl

@[simp] theorem State.setBeats_nextIncident (b : BeatGenerator) :
    (s.setBeats b).nextIncident = s.nextIncident := rfl

@[simp] theorem State.setBeats_incidentWrap (b : BeatGenerator) :
    (s.setBeats b).incidentWrap = s.incidentWrap := rfl

@[simp] theorem State.setBeats_feeds (b : BeatGenerator) :
    (s.setBeats b).feeds = s.feeds := rfl

@[simp] theorem State.setBeats_rotation (b : BeatGenerator) :
    (s.setBeats b).rotation = s.rotation := rfl

@[simp] theorem State.setBeats_groupModes (b : BeatGenerator) :
    (s.setBeats b).groupModes = s.groupModes := rfl

@[simp] theorem State.setBeats_beats (b : BeatGenerator) :
    (s.setBeats b).beats = b := rfl

@[simp] theorem State.setBeats_bank (b : BeatGenerator) :
    (s.setBeats b).bank = s.bank := rfl

@[simp] theorem State.setBeats_lines (b : BeatGenerator) :
    (s.setBeats b).lines = s.lines := rfl

@[simp] theorem State.setBeats_notices (b : BeatGenerator) :
    (s.setBeats b).notices = s.notices := rfl

@[simp] theorem State.setBeats_link (b : BeatGenerator) :
    (s.setBeats b).link = s.link := rfl

@[simp] theorem State.setBeats_pins (b : BeatGenerator) :
    (s.setBeats b).pins = s.pins := rfl

@[simp] theorem State.setBeats_now (b : BeatGenerator) :
    (s.setBeats b).now = s.now := rfl

@[simp] theorem State.setBeats_choices (b : BeatGenerator) :
    (s.setBeats b).choices = s.choices := rfl

@[simp] theorem State.setBeats_pending (b : BeatGenerator) :
    (s.setBeats b).pending = s.pending := rfl

@[simp] theorem State.setBeats_district (b : BeatGenerator) (e : DistrictNo) :
    (s.setBeats b).district e = s.district e := rfl

@[simp] theorem State.setBeats_feed (b : BeatGenerator) (e : FeedNo) :
    (s.setBeats b).feed e = s.feed e := rfl

@[simp] theorem State.setBeats_counter (b : BeatGenerator) (e : CounterIx) :
    (s.setBeats b).counter e = s.counter e := rfl

@[simp] theorem State.setBeats_groupMode (b : BeatGenerator) (e : GroupNo) :
    (s.setBeats b).groupMode e = s.groupMode e := rfl

@[simp] theorem State.setBeats_line (b : BeatGenerator) (e : LineNo) :
    (s.setBeats b).line e = s.line e := rfl

@[simp] theorem State.setBeats_held (b : BeatGenerator) :
    (s.setBeats b).held = s.held := rfl


/-! ### setNumbering -/

@[simp] theorem State.setNumbering_districts (n w : Nat) :
    (s.setNumbering n w).districts = s.districts := rfl

@[simp] theorem State.setNumbering_nextIncident (n w : Nat) :
    (s.setNumbering n w).nextIncident = n := rfl

@[simp] theorem State.setNumbering_incidentWrap (n w : Nat) :
    (s.setNumbering n w).incidentWrap = w := rfl

@[simp] theorem State.setNumbering_feeds (n w : Nat) :
    (s.setNumbering n w).feeds = s.feeds := rfl

@[simp] theorem State.setNumbering_rotation (n w : Nat) :
    (s.setNumbering n w).rotation = s.rotation := rfl

@[simp] theorem State.setNumbering_groupModes (n w : Nat) :
    (s.setNumbering n w).groupModes = s.groupModes := rfl

@[simp] theorem State.setNumbering_beats (n w : Nat) :
    (s.setNumbering n w).beats = s.beats := rfl

@[simp] theorem State.setNumbering_bank (n w : Nat) :
    (s.setNumbering n w).bank = s.bank := rfl

@[simp] theorem State.setNumbering_lines (n w : Nat) :
    (s.setNumbering n w).lines = s.lines := rfl

@[simp] theorem State.setNumbering_notices (n w : Nat) :
    (s.setNumbering n w).notices = s.notices := rfl

@[simp] theorem State.setNumbering_link (n w : Nat) :
    (s.setNumbering n w).link = s.link := rfl

@[simp] theorem State.setNumbering_pins (n w : Nat) :
    (s.setNumbering n w).pins = s.pins := rfl

@[simp] theorem State.setNumbering_now (n w : Nat) :
    (s.setNumbering n w).now = s.now := rfl

@[simp] theorem State.setNumbering_choices (n w : Nat) :
    (s.setNumbering n w).choices = s.choices := rfl

@[simp] theorem State.setNumbering_pending (n w : Nat) :
    (s.setNumbering n w).pending = s.pending := rfl

@[simp] theorem State.setNumbering_district (n w : Nat) (e : DistrictNo) :
    (s.setNumbering n w).district e = s.district e := rfl

@[simp] theorem State.setNumbering_feed (n w : Nat) (e : FeedNo) :
    (s.setNumbering n w).feed e = s.feed e := rfl

@[simp] theorem State.setNumbering_counter (n w : Nat) (e : CounterIx) :
    (s.setNumbering n w).counter e = s.counter e := rfl

@[simp] theorem State.setNumbering_groupMode (n w : Nat) (e : GroupNo) :
    (s.setNumbering n w).groupMode e = s.groupMode e := rfl

@[simp] theorem State.setNumbering_line (n w : Nat) (e : LineNo) :
    (s.setNumbering n w).line e = s.line e := rfl

@[simp] theorem State.setNumbering_held (n w : Nat) :
    (s.setNumbering n w).held = s.held := rfl

/-! ### Reading what was written -/

@[simp] theorem State.district_setDistrict (d e : DistrictNo) (x : District) :
    (s.setDistrict d x).district e = if e = d then x else s.district e := by
  by_cases h : e = d
  · subst h; simp [State.district, State.setDistrict]
  · have : d.val ≠ e.val := fun hv => h (Fin.ext hv.symm)
    simp [State.district, State.setDistrict, this, h]

theorem State.district_setDistrict_self (d : DistrictNo) (x : District) :
    (s.setDistrict d x).district d = x := by simp

theorem State.district_setDistrict_ne (d e : DistrictNo) (x : District) (h : e ≠ d) :
    (s.setDistrict d x).district e = s.district e := by simp [h]

@[simp] theorem State.district_mapDistricts (g : DistrictNo → District → District) (e : DistrictNo) :
    (s.mapDistricts g).district e = g e (s.district e) := by
  simp [State.district, State.mapDistricts]

@[simp] theorem State.feed_setFeed (f e : FeedNo) (x : Feed) :
    (s.setFeed f x).feed e = if e = f then x else s.feed e := by
  by_cases h : e = f
  · subst h; simp [State.feed, State.setFeed]
  · have : f.val ≠ e.val := fun hv => h (Fin.ext hv.symm)
    simp [State.feed, State.setFeed, this, h]

@[simp] theorem State.feed_mapFeeds (g : FeedNo → Feed → Feed) (e : FeedNo) :
    (s.mapFeeds g).feed e = g e (s.feed e) := by
  simp [State.feed, State.mapFeeds]

@[simp] theorem State.counter_setCounter (i e : CounterIx) (c : Counter) :
    (s.setCounter i c).counter e = if e = i then c else s.counter e := by
  by_cases h : e = i
  · subst h; simp [State.counter, State.setCounter]
  · have : i.val ≠ e.val := fun hv => h (Fin.ext hv.symm)
    simp [State.counter, State.setCounter, this, h]

/-- Two states whose districts read alike hold the same districts. -/
theorem State.districts_ext (s t : State) (h : ∀ d, s.district d = t.district d) :
    s.districts = t.districts := by
  ext i hi
  exact h ⟨i, hi⟩

/-- Two states whose feeds read alike hold the same feeds. -/
theorem State.feeds_ext (s t : State) (h : ∀ f, s.feed f = t.feed f) : s.feeds = t.feeds := by
  ext i hi
  exact h ⟨i, hi⟩

/-- Writing back a district what it holds changes nothing. -/
theorem State.setDistrict_same (d : DistrictNo) : s.setDistrict d (s.district d) = s := by
  simp [State.setDistrict, State.district]

/-- Writing back a feed what it holds changes nothing. -/
theorem State.setFeed_same (f : FeedNo) : s.setFeed f (s.feed f) = s := by
  simp [State.setFeed, State.feed]

/-- The last of two writes of one district stands. -/
@[simp] theorem State.setDistrict_setDistrict (d : DistrictNo) (x y : District) :
    (s.setDistrict d x).setDistrict d y = s.setDistrict d y := by
  simp [State.setDistrict]

end Sys2Proof.Machine
end

