-- ==== Sys2Proof/Laws/Ops.lean ====
section
/-! SUPPORT. What each shared operation of Machine/Ops.lean can do, said once: the parts it leaves alone, and
the value of each part it writes. -/

namespace Sys2Proof.Machine

variable (s : State)

/-! ### Making a notice -/

/-- Making a notice changes the Notice Queue alone. -/
theorem makeNotice_eq (n : Notice) : makeNotice n s = s.setNotices (noticesAfter n s.notices) := by
  unfold makeNotice noticesAfter
  split <;> rfl

@[simp] theorem makeNotice_notices (n : Notice) :
    (makeNotice n s).notices = noticesAfter n s.notices := by
  simp [makeNotice_eq]

@[simp] theorem makeNotice_districts (n : Notice) : (makeNotice n s).districts = s.districts := by
  simp [makeNotice_eq]

@[simp] theorem makeNotice_nextIncident (n : Notice) : (makeNotice n s).nextIncident = s.nextIncident := by
  simp [makeNotice_eq]

@[simp] theorem makeNotice_incidentWrap (n : Notice) : (makeNotice n s).incidentWrap = s.incidentWrap := by
  simp [makeNotice_eq]

@[simp] theorem makeNotice_feeds (n : Notice) : (makeNotice n s).feeds = s.feeds := by
  simp [makeNotice_eq]

@[simp] theorem makeNotice_rotation (n : Notice) : (makeNotice n s).rotation = s.rotation := by
  simp [makeNotice_eq]

@[simp] theorem makeNotice_groupModes (n : Notice) : (makeNotice n s).groupModes = s.groupModes := by
  simp [makeNotice_eq]

@[simp] theorem makeNotice_beats (n : Notice) : (makeNotice n s).beats = s.beats := by
  simp [makeNotice_eq]

@[simp] theorem makeNotice_bank (n : Notice) : (makeNotice n s).bank = s.bank := by
  simp [makeNotice_eq]

@[simp] theorem makeNotice_lines (n : Notice) : (makeNotice n s).lines = s.lines := by
  simp [makeNotice_eq]

@[simp] theorem makeNotice_link (n : Notice) : (makeNotice n s).link = s.link := by
  simp [makeNotice_eq]

@[simp] theorem makeNotice_pins (n : Notice) : (makeNotice n s).pins = s.pins := by
  simp [makeNotice_eq]

@[simp] theorem makeNotice_now (n : Notice) : (makeNotice n s).now = s.now := by
  simp [makeNotice_eq]

@[simp] theorem makeNotice_choices (n : Notice) : (makeNotice n s).choices = s.choices := by
  simp [makeNotice_eq]

@[simp] theorem makeNotice_pending (n : Notice) : (makeNotice n s).pending = s.pending := by
  simp [makeNotice_eq]

@[simp] theorem makeNotice_district (n : Notice) (e : DistrictNo) : (makeNotice n s).district e = s.district e := by
  simp [State.district]

@[simp] theorem makeNotice_feed (n : Notice) (e : FeedNo) : (makeNotice n s).feed e = s.feed e := by
  simp [State.feed]

@[simp] theorem makeNotice_counter (n : Notice) (e : CounterIx) : (makeNotice n s).counter e = s.counter e := by
  simp [State.counter]

@[simp] theorem makeNotice_groupMode (n : Notice) (e : GroupNo) : (makeNotice n s).groupMode e = s.groupMode e := by
  simp [State.groupMode]

@[simp] theorem makeNotice_line (n : Notice) (e : LineNo) : (makeNotice n s).line e = s.line e := by
  simp [State.line]

@[simp] theorem makeNotice_held (n : Notice) : (makeNotice n s).held = s.held := by
  simp [State.held]

/-- Entry at the queue keeps the mask and the flow mark. -/
@[simp] theorem enterQueue_kindMask (n : Notice) (q : NoticeQueue) :
    (enterQueue n q).kindMask = q.kindMask := by
  unfold enterQueue; split <;> rfl

@[simp] theorem enterQueue_flow (n : Notice) (q : NoticeQueue) : (enterQueue n q).flow = q.flow := by
  unfold enterQueue; split <;> rfl

/-- A notice that finds room enters at the back (R170). -/
theorem enterQueue_room (n : Notice) (q : NoticeQueue) (h : q.entries.length < 48) :
    enterQueue n q = { q with entries := q.entries ++ [⟨n, q.lost⟩], lost := false } := by
  simp [enterQueue, Config.noticeCapacity, h]

/-- A notice that finds 48 held is dropped (R170). -/
theorem enterQueue_full (n : Notice) (q : NoticeQueue) (h : 48 ≤ q.entries.length) :
    enterQueue n q = { q with lost := true } := by
  have : ¬ q.entries.length < 48 := by omega
  simp [enterQueue, Config.noticeCapacity, this]

/-- Entry keeps the queue within 48 (R168). -/
theorem enterQueue_bound (n : Notice) (q : NoticeQueue) (h : q.entries.length ≤ 48) :
    (enterQueue n q).entries.length ≤ 48 := by
  by_cases hr : q.entries.length < 48
  · rw [enterQueue_room n q hr]; simp; omega
  · rw [enterQueue_full n q (by omega)]; exact h

/-- Handing a notice keeps the queue within 48 (R168). -/
theorem noticesAfter_bound (n : Notice) (q : NoticeQueue) (h : q.entries.length ≤ 48) :
    (noticesAfter n q).entries.length ≤ 48 := by
  unfold noticesAfter
  split
  · exact enterQueue_bound n q h
  · exact h

@[simp] theorem noticesAfter_kindMask (n : Notice) (q : NoticeQueue) :
    (noticesAfter n q).kindMask = q.kindMask := by
  unfold noticesAfter; split <;> simp

@[simp] theorem noticesAfter_flow (n : Notice) (q : NoticeQueue) :
    (noticesAfter n q).flow = q.flow := by
  unfold noticesAfter; split <;> simp

/-! ### Incrementing a counter -/

@[simp] theorem handAll_nil (q : NoticeQueue) : handAll [] q = q := rfl

@[simp] theorem handAll_cons (n : Notice) (made : List Notice) (q : NoticeQueue) :
    handAll (n :: made) q = handAll made (noticesAfter n q) := rfl

theorem handAll_append (a b : List Notice) (q : NoticeQueue) :
    handAll (a ++ b) q = handAll b (handAll a q) := by
  simp [handAll, List.foldl_append]

/-- Handing notices keeps the queue within 48 (R168). -/
theorem handAll_bound (made : List Notice) (q : NoticeQueue) (h : q.entries.length ≤ 48) :
    (handAll made q).entries.length ≤ 48 := by
  induction made generalizing q with
  | nil => exact h
  | cons n made ih => exact ih _ (noticesAfter_bound n q h)

/-- An increment writes the counter and hands the notice of a mark it sets. -/
theorem increment_eq (i : CounterIx) :
    increment i s =
      (s.setCounter i (countUp s.bank.mode (s.counter i)).1).setNotices
        (handAll (countNotices s i) s.notices) := by
  unfold increment countNotices
  rcases h : countUp s.bank.mode (s.counter i) with ⟨c, m⟩
  cases m with
  | none => rfl
  | some mark =>
    cases hb : s.bank.noticeEnable
    · rfl
    · simp [makeNotice_eq]

@[simp] theorem increment_notices (i : CounterIx) :
    (increment i s).notices = handAll (countNotices s i) s.notices := by
  simp [increment_eq]

@[simp] theorem increment_counter (i e : CounterIx) :
    (increment i s).counter e =
      if e = i then (countUp s.bank.mode (s.counter i)).1 else s.counter e := by
  have h : (increment i s).counter e =
      (s.setCounter i (countUp s.bank.mode (s.counter i)).1).counter e := by
    rw [increment_eq, State.setNotices_counter]
  rw [h, State.counter_setCounter]

@[simp] theorem increment_mode (i : CounterIx) : (increment i s).bank.mode = s.bank.mode := by
  simp [increment_eq]

@[simp] theorem increment_noticeEnable (i : CounterIx) :
    (increment i s).bank.noticeEnable = s.bank.noticeEnable := by
  simp [increment_eq]

@[simp] theorem increment_districts (i : CounterIx) : (increment i s).districts = s.districts := by
  simp [increment_eq]

@[simp] theorem increment_nextIncident (i : CounterIx) : (increment i s).nextIncident = s.nextIncident := by
  simp [increment_eq]

@[simp] theorem increment_incidentWrap (i : CounterIx) : (increment i s).incidentWrap = s.incidentWrap := by
  simp [increment_eq]

@[simp] theorem increment_feeds (i : CounterIx) : (increment i s).feeds = s.feeds := by
  simp [increment_eq]

@[simp] theorem increment_rotation (i : CounterIx) : (increment i s).rotation = s.rotation := by
  simp [increment_eq]

@[simp] theorem increment_groupModes (i : CounterIx) : (increment i s).groupModes = s.groupModes := by
  simp [increment_eq]

@[simp] theorem increment_beats (i : CounterIx) : (increment i s).beats = s.beats := by
  simp [increment_eq]

@[simp] theorem increment_lines (i : CounterIx) : (increment i s).lines = s.lines := by
  simp [increment_eq]

@[simp] theorem increment_link (i : CounterIx) : (increment i s).link = s.link := by
  simp [increment_eq]

@[simp] theorem increment_pins (i : CounterIx) : (increment i s).pins = s.pins := by
  simp [increment_eq]

@[simp] theorem increment_now (i : CounterIx) : (increment i s).now = s.now := by
  simp [increment_eq]

@[simp] theorem increment_choices (i : CounterIx) : (increment i s).choices = s.choices := by
  simp [increment_eq]

@[simp] theorem increment_pending (i : CounterIx) : (increment i s).pending = s.pending := by
  simp [increment_eq]

@[simp] theorem increment_district (i : CounterIx) (e : DistrictNo) : (increment i s).district e = s.district e := by
  simp [State.district]

@[simp] theorem increment_feed (i : CounterIx) (e : FeedNo) : (increment i s).feed e = s.feed e := by
  simp [State.feed]

@[simp] theorem increment_groupMode (i : CounterIx) (e : GroupNo) : (increment i s).groupMode e = s.groupMode e := by
  simp [State.groupMode]

@[simp] theorem increment_line (i : CounterIx) (e : LineNo) : (increment i s).line e = s.line e := by
  simp [State.line]

@[simp] theorem increment_held (i : CounterIx) : (increment i s).held = s.held := by
  simp [State.held]

/-- An increment keeps a counter within 0 to 65535 (R114). -/
theorem countUp_range (mode : CounterMode) (c : Counter) (h : c.value ≤ 65535) :
    (countUp mode c).1.value ≤ 65535 := by
  unfold countUp Config.counterTop
  split
  · cases mode <;> simp_all
  · split
    · simp_all
    · split
      · simp_all
      · simp; omega

/-! ### Claims -/

@[simp] theorem releaseClaim_district (d e : DistrictNo) :
    (releaseClaim d s).district e =
      if e = d then { s.district d with heldClaim := none } else s.district e := by
  simp [releaseClaim]

@[simp] theorem releaseClaim_feed (d : DistrictNo) (f : FeedNo) :
    (releaseClaim d s).feed f =
      if f = (s.district d).config.feed then
        { s.feed f with heldSum := (s.feed f).heldSum - (s.district d).heldClaim.getD 0 }
      else s.feed f := by
  simp only [releaseClaim, State.setDistrict_feed, State.feed_setFeed]
  split
  · next h => rw [h]
  · rfl

@[simp] theorem releaseClaim_nextIncident (d : DistrictNo) : (releaseClaim d s).nextIncident = s.nextIncident := by
  simp [releaseClaim]

@[simp] theorem releaseClaim_incidentWrap (d : DistrictNo) : (releaseClaim d s).incidentWrap = s.incidentWrap := by
  simp [releaseClaim]

@[simp] theorem releaseClaim_rotation (d : DistrictNo) : (releaseClaim d s).rotation = s.rotation := by
  simp [releaseClaim]

@[simp] theorem releaseClaim_groupModes (d : DistrictNo) : (releaseClaim d s).groupModes = s.groupModes := by
  simp [releaseClaim]

@[simp] theorem releaseClaim_beats (d : DistrictNo) : (releaseClaim d s).beats = s.beats := by
  simp [releaseClaim]

@[simp] theorem releaseClaim_bank (d : DistrictNo) : (releaseClaim d s).bank = s.bank := by
  simp [releaseClaim]

@[simp] theorem releaseClaim_lines (d : DistrictNo) : (releaseClaim d s).lines = s.lines := by
  simp [releaseClaim]

@[simp] theorem releaseClaim_notices (d : DistrictNo) : (releaseClaim d s).notices = s.notices := by
  simp [releaseClaim]

@[simp] theorem releaseClaim_link (d : DistrictNo) : (releaseClaim d s).link = s.link := by
  simp [releaseClaim]

@[simp] theorem releaseClaim_pins (d : DistrictNo) : (releaseClaim d s).pins = s.pins := by
  simp [releaseClaim]

@[simp] theorem releaseClaim_now (d : DistrictNo) : (releaseClaim d s).now = s.now := by
  simp [releaseClaim]

@[simp] theorem releaseClaim_choices (d : DistrictNo) : (releaseClaim d s).choices = s.choices := by
  simp [releaseClaim]

@[simp] theorem releaseClaim_pending (d : DistrictNo) : (releaseClaim d s).pending = s.pending := by
  simp [releaseClaim]

@[simp] theorem releaseClaim_counter (d : DistrictNo) (e : CounterIx) : (releaseClaim d s).counter e = s.counter e := by
  simp [State.counter]

@[simp] theorem releaseClaim_groupMode (d : DistrictNo) (e : GroupNo) : (releaseClaim d s).groupMode e = s.groupMode e := by
  simp [State.groupMode]

@[simp] theorem releaseClaim_line (d : DistrictNo) (e : LineNo) : (releaseClaim d s).line e = s.line e := by
  simp [State.line]

@[simp] theorem releaseClaim_held (d : DistrictNo) : (releaseClaim d s).held = s.held := by
  simp [State.held]

@[simp] theorem withdraw_district (chosen : District → Bool) (change : District → District)
    (e : DistrictNo) :
    (withdraw chosen change s).district e =
      if chosen (s.district e) then change (s.district e) else s.district e := by
  by_cases h : chosen (s.district e) = true <;>
    simp only [withdraw, State.district_mapDistricts, State.mapFeeds_district, h]

@[simp] theorem withdraw_feed (chosen : District → Bool) (change : District → District) (f : FeedNo) :
    (withdraw chosen change s).feed f =
      { s.feed f with heldSum := (s.feed f).heldSum - claimSum s chosen f } := by
  simp [withdraw]

@[simp] theorem withdraw_nextIncident (chosen : District → Bool) (change : District → District) : (withdraw chosen change s).nextIncident = s.nextIncident := by
  simp [withdraw]

@[simp] theorem withdraw_incidentWrap (chosen : District → Bool) (change : District → District) : (withdraw chosen change s).incidentWrap = s.incidentWrap := by
  simp [withdraw]

@[simp] theorem withdraw_rotation (chosen : District → Bool) (change : District → District) : (withdraw chosen change s).rotation = s.rotation := by
  simp [withdraw]

@[simp] theorem withdraw_groupModes (chosen : District → Bool) (change : District → District) : (withdraw chosen change s).groupModes = s.groupModes := by
  simp [withdraw]

@[simp] theorem withdraw_beats (chosen : District → Bool) (change : District → District) : (withdraw chosen change s).beats = s.beats := by
  simp [withdraw]

@[simp] theorem withdraw_bank (chosen : District → Bool) (change : District → District) : (withdraw chosen change s).bank = s.bank := by
  simp [withdraw]

@[simp] theorem withdraw_lines (chosen : District → Bool) (change : District → District) : (withdraw chosen change s).lines = s.lines := by
  simp [withdraw]

@[simp] theorem withdraw_notices (chosen : District → Bool) (change : District → District) : (withdraw chosen change s).notices = s.notices := by
  simp [withdraw]

@[simp] theorem withdraw_link (chosen : District → Bool) (change : District → District) : (withdraw chosen change s).link = s.link := by
  simp [withdraw]

@[simp] theorem withdraw_pins (chosen : District → Bool) (change : District → District) : (withdraw chosen change s).pins = s.pins := by
  simp [withdraw]

@[simp] theorem withdraw_now (chosen : District → Bool) (change : District → District) : (withdraw chosen change s).now = s.now := by
  simp [withdraw]

@[simp] theorem withdraw_choices (chosen : District → Bool) (change : District → District) : (withdraw chosen change s).choices = s.choices := by
  simp [withdraw]

@[simp] theorem withdraw_pending (chosen : District → Bool) (change : District → District) : (withdraw chosen change s).pending = s.pending := by
  simp [withdraw]

@[simp] theorem withdraw_counter (chosen : District → Bool) (change : District → District) (e : CounterIx) : (withdraw chosen change s).counter e = s.counter e := by
  simp [State.counter]

@[simp] theorem withdraw_groupMode (chosen : District → Bool) (change : District → District) (e : GroupNo) : (withdraw chosen change s).groupMode e = s.groupMode e := by
  simp [State.groupMode]

@[simp] theorem withdraw_line (chosen : District → Bool) (change : District → District) (e : LineNo) : (withdraw chosen change s).line e = s.line e := by
  simp [State.line]

@[simp] theorem withdraw_held (chosen : District → Bool) (change : District → District) : (withdraw chosen change s).held = s.held := by
  simp [State.held]

end Sys2Proof.Machine
end

