-- ==== Sys2Proof/Laws/Closing.lean ====
section
/-! SUPPORT. How a step closes: the transmitter's choice and the status outputs, said once in the terms of
`Closes`, and the taking of a request that finds the way free. -/

namespace Sys2Proof.Machine

variable (s : State)

/-! ### The transmitter's choice -/

/-- The transmitter's choice touches the Link Interface and the Notice Queue alone. -/
theorem chooseNext_eq :
    chooseNext s =
      { s with
        link := (afterChoice s.link s.notices).1
        notices := (afterChoice s.link s.notices).2 } := by
  unfold chooseNext sendReply sendNotice afterChoice
  rcases hs : s.link.sending with _ | x
  · rcases hr : s.link.replyQueue with _ | ⟨r, rest⟩
    · rcases he : s.notices.entries with _ | ⟨n, more⟩
      · simp [hs, hr]
      · cases hf : s.notices.flow
        · simp [hs, hr]
        · simp [hs, hr, hf, State.setLink, State.setNotices, transmission]
    · simp [State.setLink, transmission]
  · simp [hs]

/-- The choice a second time changes nothing where the first found a reply or a frame under way. -/
theorem sendReply_idem : sendReply (sendReply s) = sendReply s := by
  unfold sendReply
  rcases hs : s.link.sending with _ | x
  · rcases hr : s.link.replyQueue with _ | ⟨r, rest⟩
    · simp [hs, hr]
    · simp
  · simp [hs]

/-- What `refreshLines` does to the lines. -/
@[simp] theorem refreshLines_line (n : LineNo) :
    (refreshLines s).line n =
      { s.line n with level := lineLevel s (s.line n).source (s.line n).invert } := by
  simp [refreshLines, State.line]

/-- The level of a source does not depend on the line records. -/
theorem lineLevel_refreshLines (source : Source) (invert : Bool) :
    lineLevel (refreshLines s) source invert = lineLevel s source invert := by
  cases source <;> rfl

/-- After `refreshLines` every status output stands at its source's level (R129). -/
theorem refreshLines_levels : LevelsFollow (refreshLines s) := by
  intro n
  rw [lineLevel_refreshLines]
  simp

/-- Where every status output already stands at its source's level, `refreshLines` changes nothing. -/
theorem refreshLines_of_levels (h : LevelsFollow s) : refreshLines s = s := by
  have : (refreshLines s).lines = s.lines := by
    apply Vector.ext
    intro i hi
    have h1 := refreshLines_line s ⟨i, hi⟩
    have h2 := h ⟨i, hi⟩
    simp only [State.line] at h1 h2
    rw [h1, ← h2]
  calc refreshLines s = { s with lines := (refreshLines s).lines } := rfl
    _ = s := by rw [this]

/-! ### How an event closes -/

/-- What `closeEvent` answers, where the event has left `v`: `v` differs from `u` in the replies queued and
the notices handed alone. -/
theorem closes_closeEvent {u v : State} {replies : List Reply} {made : List Notice}
    (hd : v.districts = u.districts) (hn : v.nextIncident = u.nextIncident)
    (hw : v.incidentWrap = u.incidentWrap) (hf : v.feeds = u.feeds) (hr : v.rotation = u.rotation)
    (hg : v.groupModes = u.groupModes) (hb : v.beats = u.beats) (hc : v.bank = u.bank)
    (hl : v.lines = u.lines) (hp : v.pins = u.pins) (ht : v.now = u.now)
    (hch : v.choices = u.choices) (hq : v.pending = u.pending)
    (hlink : v.link = { u.link with replyQueue := u.link.replyQueue ++ replies })
    (hnot : v.notices = handAll made u.notices) : Closes u replies made (closeEvent v) := by
  unfold closeEvent
  rw [chooseNext_eq]
  refine ⟨hd, hn, hw, hf, hr, hg, hb, hc, hp, ht, hch, hq, fun n => ?_, refreshLines_levels _, ?_⟩
  · rw [refreshLines_line]
    simp [State.line, hl]
  · rw [← hlink, ← hnot]; rfl

/-- An event that neither queues a reply nor hands a notice. -/
theorem closes_closeEvent_self (u : State) : Closes u [] [] (closeEvent u) :=
  closes_closeEvent rfl rfl rfl rfl rfl rfl rfl rfl rfl rfl rfl rfl rfl (by simp) rfl

end Sys2Proof.Machine
end

