-- ==== Sys2Proof/Laws/Counting.lean ====
section
/-! SUPPORT. The increments of one event: what a run of increments of different counters leaves, in the terms
of `countedBank` and `runNotices`. -/

namespace Sys2Proof.Machine

/-- Two banks with the same counters, mode and enable are the same. -/
theorem bank_ext {a b : CounterBank} (hc : ∀ i : CounterIx, a.counters[i.val] = b.counters[i.val])
    (hm : a.mode = b.mode) (he : a.noticeEnable = b.noticeEnable) : a = b := by
  cases a; cases b
  simp only at hc hm he
  subst hm he
  congr
  exact Vector.ext fun i hi => hc ⟨i, hi⟩

/-- A counter of the bank after a run of increments. -/
theorem countedBank_counter (s : State) (run : List CounterIx) (i : CounterIx) :
    (countedBank s run).counters[i.val] =
      if i ∈ run then (countUp s.bank.mode (s.counter i)).1 else s.counter i := by
  simp [countedBank]

/-- No increment leaves the bank as it is. -/
@[simp] theorem countedBank_nil (s : State) : countedBank s [] = s.bank :=
  bank_ext (fun i => by rw [countedBank_counter]; simp [State.counter]) rfl rfl

/-- An increment and then a run of increments of other counters. -/
theorem countedBank_cons (s : State) (i : CounterIx) (run : List CounterIx) (h : i ∉ run) :
    countedBank (increment i s) run = countedBank s (i :: run) := by
  refine bank_ext (fun j => ?_) (by simp [countedBank]) (by simp [countedBank])
  rw [countedBank_counter, countedBank_counter]
  by_cases hj : j = i
  · subst hj; simp [h]
  · simp [hj]

/-- The notices of a run do not depend on a counter outside it. -/
theorem runNotices_increment (s : State) (i : CounterIx) (run : List CounterIx) (h : i ∉ run) :
    runNotices (increment i s) run = runNotices s run := by
  unfold runNotices
  refine List.flatMap_congr fun j hj => ?_
  have hne : j ≠ i := fun e => h (e ▸ hj)
  simp [countNotices, hne]

/-- A run of increments of different counters: the bank counts each once, the notices of the marks are handed
in their order, and nothing else changes (R115, R116, R117, R119). -/
theorem increments_eq (s : State) (run : List CounterIx) (h : run.Nodup) :
    run.foldl (fun s i => increment i s) s =
      { s with bank := countedBank s run, notices := handAll (runNotices s run) s.notices } := by
  induction run generalizing s with
  | nil => simp [runNotices]
  | cons i run ih =>
    obtain ⟨hi, hrun⟩ := List.nodup_cons.mp h
    rw [List.foldl_cons, ih _ hrun, countedBank_cons s i run hi, runNotices_increment s i run hi]
    have hn : handAll (runNotices s (i :: run)) s.notices =
        handAll (runNotices s run) (increment i s).notices := by
      simp [runNotices, handAll_append]
    rw [hn]
    simp [increment_eq, State.setCounter, State.setNotices]

/-- The indices of the counters of one district are different (R114). -/
theorem districtCounter_ne (d : DistrictNo) {k l : DistrictCounter} (h : k ≠ l) :
    districtCounter d k ≠ districtCounter d l := by
  intro e
  have := congrArg Fin.val e
  cases k <;> cases l <;> simp_all [districtCounter, districtKindNumber]

end Sys2Proof.Machine
end

