-- ==== Sys2Proof/Laws/Operands.lean ====
section
/-! SUPPORT. The codes of section 10.7 read back: a number's byte names that number, and a code outside its
list names nothing. -/

namespace Sys2Proof.Machine

/-- The kind byte of a request names that request (R147). -/
@[simp] theorem requestKindOf_requestCode (k : RequestKind) : requestKindOf (requestCode k) = some k := by
  cases k <;> rfl

/-- A frame of a request's kind at its owner (R140). -/
theorem answer_of_kind (k : RequestKind) (tag : Byte) (body : List Byte) (s : State)
    (h : body.length = bodyLength k) :
    answer ⟨requestCode k, tag, body⟩ s = answerRequest k body s := by
  simp [answer, h]

@[simp] theorem byteOf_toNat (n : Nat) (h : n < 256) : (byteOf n).toNat = n := by
  simp [byteOf]; omega

@[simp] theorem districtNo?_byteOf (d : DistrictNo) : districtNo? (byteOf d.val).toNat = some d := by
  rw [byteOf_toNat _ (by omega)]; simp [districtNo?]

@[simp] theorem feedNo?_byteOf (f : FeedNo) : feedNo? (byteOf f.val).toNat = some f := by
  rw [byteOf_toNat _ (by omega)]; simp [feedNo?]

@[simp] theorem lineNo?_byteOf (n : LineNo) : lineNo? (byteOf n.val).toNat = some n := by
  rw [byteOf_toNat _ (by omega)]; simp [lineNo?]

theorem districtNo?_none {n : Nat} (h : 24 ≤ n) : districtNo? n = none := by
  simp [districtNo?]; omega

theorem feedNo?_none {n : Nat} (h : 4 ≤ n) : feedNo? n = none := by
  simp [feedNo?]; omega

theorem lineNo?_none {n : Nat} (h : 8 ≤ n) : lineNo? n = none := by
  simp [lineNo?]; omega

@[simp] theorem faultLevelOf?_byte (l : FaultLevel) :
    faultLevelOf? (faultLevelByte l).toNat = some l := by
  cases l <;> rfl

@[simp] theorem beatModeOf?_byte (m : BeatMode) : beatModeOf? (beatModeByte m).toNat = some m := by
  cases m <;> rfl

/-- The bytes of a body at the manual's offsets, which count from 1. -/
@[simp] theorem byteAt_cons_one (b : Byte) (rest : List Byte) : byteAt (b :: rest) 1 = b.toNat := rfl

@[simp] theorem byteAt_cons_succ (b : Byte) (rest : List Byte) (n : Nat) :
    byteAt (b :: rest) (n + 2) = byteAt rest (n + 1) := rfl

end Sys2Proof.Machine
end

