-- ==== Sys2Proof/Laws/PerInstr.lean ====
section
/-! SUPPORT. For every command, made row by row: the frame of a well-formed request stands on the line as 5
to 65 bytes whose sum from the length byte on is 0 (R134). -/

namespace Sys2Proof.Laws

open Sys2Proof.Machine

/-- The frame of the command, if it has one, fits the line and passes the frame check (R134). -/
def FrameOnTheLine.Statement (i : Instr) : Prop :=
  i.wellFormed = true → ∀ f, i.frame? = some f →
    5 ≤ (frameBytes f).length ∧ (frameBytes f).length ≤ 65 ∧ byteSum ((frameBytes f).drop 1) = 0

/-- The sum of some bytes and one more. -/
theorem byteSum_append_one (bytes : List Byte) (b : Byte) :
    byteSum (bytes ++ [b]) = byteSum bytes + b := by
  simp [byteSum, List.foldl_append]

/-- The check byte brings the sum to 0 (R134). -/
theorem frame_checks (f : Frame) : byteSum ((frameBytes f).drop 1) = 0 := by
  have : (frameBytes f).drop 1 = (lengthByte f :: frameCore f) ++ [checkByte f] := rfl
  rw [this, byteSum_append_one, checkByte]
  exact BitVec.add_right_neg _

/-- A frame has 5 bytes more than its body (R134). -/
theorem frame_length (f : Frame) : (frameBytes f).length = f.body.length + 5 := by
  simp [frameBytes, frameCore]

/-- The statement of a request row, from the length of its body. -/
theorem frameOnTheLine_of_body {i : Instr} {f : Frame} (hf : i.frame? = some f) :
    FrameOnTheLine.Statement i := by
  intro hw g hg
  rw [hf, Option.some.injEq] at hg
  subst hg
  have hw' := hw
  simp only [Instr.wellFormed, Instr.bodyOk, hf, Bool.and_eq_true, maxBody] at hw'
  have hb : f.body.length ≤ 60 := of_decide_eq_true hw'.1.2
  have := frame_length f
  exact ⟨by omega, by omega, frame_checks f⟩

/-- The statement of an event row, which has no frame. -/
theorem frameOnTheLine_of_event {i : Instr} (hi : i.frame? = none) : FrameOnTheLine.Statement i := by
  intro _ g hg
  simp [hi] at hg

theorem FrameOnTheLine.sample (d : DistrictNo) (value : BitVec 12) (overRange : Bool) :
    FrameOnTheLine.Statement (.sample d value overRange) :=
  frameOnTheLine_of_event rfl

theorem FrameOnTheLine.settleExpiry (d : DistrictNo) :
    FrameOnTheLine.Statement (.settleExpiry d) :=
  frameOnTheLine_of_event rfl

theorem FrameOnTheLine.provingExpiry (d : DistrictNo) :
    FrameOnTheLine.Statement (.provingExpiry d) :=
  frameOnTheLine_of_event rfl

theorem FrameOnTheLine.backoffExpiry (d : DistrictNo) :
    FrameOnTheLine.Statement (.backoffExpiry d) :=
  frameOnTheLine_of_event rfl

theorem FrameOnTheLine.intervalExpiry :
    FrameOnTheLine.Statement (.intervalExpiry) :=
  frameOnTheLine_of_event rfl

theorem FrameOnTheLine.beatInputEdge :
    FrameOnTheLine.Statement (.beatInputEdge) :=
  frameOnTheLine_of_event rfl

theorem FrameOnTheLine.pulseExpiry :
    FrameOnTheLine.Statement (.pulseExpiry) :=
  frameOnTheLine_of_event rfl

theorem FrameOnTheLine.feedFaultEdge (f : FeedNo) (level : Level) :
    FrameOnTheLine.Statement (.feedFaultEdge f level) :=
  frameOnTheLine_of_event rfl

theorem FrameOnTheLine.resumeExpiry (f : FeedNo) :
    FrameOnTheLine.Statement (.resumeExpiry f) :=
  frameOnTheLine_of_event rfl

theorem FrameOnTheLine.receiveByte (data : Byte) (stopBit : Level) :
    FrameOnTheLine.Statement (.receiveByte data stopBit) :=
  frameOnTheLine_of_event rfl

theorem FrameOnTheLine.gapExpiry :
    FrameOnTheLine.Statement (.gapExpiry) :=
  frameOnTheLine_of_event rfl

theorem FrameOnTheLine.transmissionEnd :
    FrameOnTheLine.Statement (.transmissionEnd) :=
  frameOnTheLine_of_event rfl

theorem FrameOnTheLine.softReset :
    FrameOnTheLine.Statement (.softReset) :=
  frameOnTheLine_of_event rfl

theorem FrameOnTheLine.hardReset :
    FrameOnTheLine.Statement (.hardReset) :=
  frameOnTheLine_of_event rfl

theorem FrameOnTheLine.resetEnd (strap : LinkRate) :
    FrameOnTheLine.Statement (.resetEnd strap) :=
  frameOnTheLine_of_event rfl

theorem FrameOnTheLine.powerUp (strap : LinkRate) :
    FrameOnTheLine.Statement (.powerUp strap) :=
  frameOnTheLine_of_event rfl

theorem FrameOnTheLine.identify (tag : Byte) (body : List Byte) :
    FrameOnTheLine.Statement (.identify tag body) :=
  frameOnTheLine_of_body rfl

theorem FrameOnTheLine.configureDistrict (tag : Byte) (body : List Byte) :
    FrameOnTheLine.Statement (.configureDistrict tag body) :=
  frameOnTheLine_of_body rfl

theorem FrameOnTheLine.readDistrict (tag : Byte) (body : List Byte) :
    FrameOnTheLine.Statement (.readDistrict tag body) :=
  frameOnTheLine_of_body rfl

theorem FrameOnTheLine.configureFeed (tag : Byte) (body : List Byte) :
    FrameOnTheLine.Statement (.configureFeed tag body) :=
  frameOnTheLine_of_body rfl

theorem FrameOnTheLine.readFeed (tag : Byte) (body : List Byte) :
    FrameOnTheLine.Statement (.readFeed tag body) :=
  frameOnTheLine_of_body rfl

theorem FrameOnTheLine.configureGroup (tag : Byte) (body : List Byte) :
    FrameOnTheLine.Statement (.configureGroup tag body) :=
  frameOnTheLine_of_body rfl

theorem FrameOnTheLine.configureBeat (tag : Byte) (body : List Byte) :
    FrameOnTheLine.Statement (.configureBeat tag body) :=
  frameOnTheLine_of_body rfl

theorem FrameOnTheLine.singleBeat (tag : Byte) (body : List Byte) :
    FrameOnTheLine.Statement (.singleBeat tag body) :=
  frameOnTheLine_of_body rfl

theorem FrameOnTheLine.on (tag : Byte) (body : List Byte) :
    FrameOnTheLine.Statement (.on tag body) :=
  frameOnTheLine_of_body rfl

theorem FrameOnTheLine.off (tag : Byte) (body : List Byte) :
    FrameOnTheLine.Statement (.off tag body) :=
  frameOnTheLine_of_body rfl

theorem FrameOnTheLine.allOff (tag : Byte) (body : List Byte) :
    FrameOnTheLine.Statement (.allOff tag body) :=
  frameOnTheLine_of_body rfl

theorem FrameOnTheLine.clear (tag : Byte) (body : List Byte) :
    FrameOnTheLine.Statement (.clear tag body) :=
  frameOnTheLine_of_body rfl

theorem FrameOnTheLine.hold (tag : Byte) (body : List Byte) :
    FrameOnTheLine.Statement (.hold tag body) :=
  frameOnTheLine_of_body rfl

theorem FrameOnTheLine.release (tag : Byte) (body : List Byte) :
    FrameOnTheLine.Statement (.release tag body) :=
  frameOnTheLine_of_body rfl

theorem FrameOnTheLine.setPolarity (tag : Byte) (body : List Byte) :
    FrameOnTheLine.Statement (.setPolarity tag body) :=
  frameOnTheLine_of_body rfl

theorem FrameOnTheLine.readSummary (tag : Byte) (body : List Byte) :
    FrameOnTheLine.Statement (.readSummary tag body) :=
  frameOnTheLine_of_body rfl

theorem FrameOnTheLine.readCounters (tag : Byte) (body : List Byte) :
    FrameOnTheLine.Statement (.readCounters tag body) :=
  frameOnTheLine_of_body rfl

theorem FrameOnTheLine.readAndClearCounters (tag : Byte) (body : List Byte) :
    FrameOnTheLine.Statement (.readAndClearCounters tag body) :=
  frameOnTheLine_of_body rfl

theorem FrameOnTheLine.configureCounters (tag : Byte) (body : List Byte) :
    FrameOnTheLine.Statement (.configureCounters tag body) :=
  frameOnTheLine_of_body rfl

theorem FrameOnTheLine.configureStatusLine (tag : Byte) (body : List Byte) :
    FrameOnTheLine.Statement (.configureStatusLine tag body) :=
  frameOnTheLine_of_body rfl

theorem FrameOnTheLine.configureNotices (tag : Byte) (body : List Byte) :
    FrameOnTheLine.Statement (.configureNotices tag body) :=
  frameOnTheLine_of_body rfl

theorem FrameOnTheLine.setIncidentWrap (tag : Byte) (body : List Byte) :
    FrameOnTheLine.Statement (.setIncidentWrap tag body) :=
  frameOnTheLine_of_body rfl

theorem FrameOnTheLine.linkStatus (tag : Byte) (body : List Byte) :
    FrameOnTheLine.Statement (.linkStatus tag body) :=
  frameOnTheLine_of_body rfl

theorem FrameOnTheLine.reset (tag : Byte) (body : List Byte) :
    FrameOnTheLine.Statement (.reset tag body) :=
  frameOnTheLine_of_body rfl

theorem FrameOnTheLine.unknownKindRequest (kind : Byte) (tag : Byte) (body : List Byte) :
    FrameOnTheLine.Statement (.unknownKindRequest kind tag body) :=
  frameOnTheLine_of_body rfl

theorem FrameOnTheLine.lossOfSupply :
    FrameOnTheLine.Statement (.lossOfSupply) :=
  frameOnTheLine_of_event rfl

end Sys2Proof.Laws
end

