-- ==== Sys2Proof/Laws/Scheduler.lean ====
section
/-! SUPPORT. The Recovery Scheduler: the one induction over the walk of a beat, and what a beat leaves
alone. -/

namespace Sys2Proof.Machine

variable (s : State)

/-! ### A launch -/

/-- The parts of the state that no launch and no beat touches. -/
structure BeatKeeps (s t : State) : Prop where
  nextIncident : t.nextIncident = s.nextIncident
  incidentWrap : t.incidentWrap = s.incidentWrap
  groupModes : t.groupModes = s.groupModes
  beats : t.beats = s.beats
  lines : t.lines = s.lines
  link : t.link = s.link
  pins : t.pins = s.pins
  now : t.now = s.now
  choices : t.choices = s.choices
  pending : t.pending = s.pending

theorem BeatKeeps.refl : BeatKeeps s s := ⟨rfl, rfl, rfl, rfl, rfl, rfl, rfl, rfl, rfl, rfl⟩

theorem BeatKeeps.trans {s t u : State} (h : BeatKeeps s t) (k : BeatKeeps t u) : BeatKeeps s u :=
  ⟨k.1.trans h.1, k.2.trans h.2, k.3.trans h.3, k.4.trans h.4, k.5.trans h.5, k.6.trans h.6,
    k.7.trans h.7, k.8.trans h.8, k.9.trans h.9, k.10.trans h.10⟩

theorem launchDistrict_keeps (d : DistrictNo) (claim : Nat) :
    BeatKeeps s (launchDistrict d claim s) := by
  constructor <;> simp [launchDistrict]

theorem increment_keeps (i : CounterIx) : BeatKeeps s (increment i s) := by
  constructor <;> simp

/-- What a launch leaves of each district record (R46). -/
theorem launchDistrict_district (d e : DistrictNo) (claim : Nat) :
    (launchDistrict d claim s).district e =
      if e = d then launchRecord claim (s.district d) else s.district e := by
  simp [launchDistrict]

/-- What a launch leaves of each feed record (R70). -/
theorem launchDistrict_feed (d : DistrictNo) (claim : Nat) (f : FeedNo) :
    (launchDistrict d claim s).feed f =
      if f = (s.district d).config.feed then { s.feed f with heldSum := (s.feed f).heldSum + claim }
      else s.feed f := by
  simp only [launchDistrict, makeNotice_feed, increment_feed, State.setDistrict_feed,
    State.feed_setFeed]
  split
  · next h => rw [h]
  · rfl

/-! ### The walk -/

/-- Whatever holds at the start of the walk, and is kept by a launch, a blocked mark, a budget failure and
a group's decision, holds at its end. -/
theorem walk_induction (P : Walk → Prop) (start : P (startWalk s))
    (launch : ∀ w d, P w → P (launchInWalk s d w)) (block : ∀ w f, P w → P (blockFeed f w))
    (fail : ∀ w f, P w → P (budgetFailure f w))
    (decide : ∀ w g, P w → P { w with decided := g :: w.decided }) : P (walk s) := by
  have fold : ∀ {α : Type} (step : Walk → α → Walk), (∀ w a, P w → P (step w a)) →
      ∀ (l : List α) (w : Walk), P w → P (l.foldl step w) := by
    intro α step hstep l
    induction l with
    | nil => exact fun w h => h
    | cons a l ih => exact fun w h => ih _ (hstep w a h)
  refine fold _ (fun w d h => ?_) _ _ start
  unfold visit
  split
  · unfold decideAlone
    dsimp only
    repeat' split
    · exact h
    · exact h
    · exact launch _ _ h
    · exact fail _ _ h
  · split
    · exact h
    · unfold decideGroup
      dsimp only
      split
      · exact decide _ _ h
      · split
        · exact fold _ (fun w d => launch w d) _ _ (decide _ _ h)
        · refine fold _ (fun w f h => ?_) _ _ (decide _ _ h)
          unfold groupFailure
          split
          · exact h
          · exact fail _ _ h
          · exact block _ _ h
          · exact block _ _ h

/-- A beat leaves these parts alone. -/
theorem walk_keeps : BeatKeeps s (walk s).state :=
  walk_induction s (fun w => BeatKeeps s w.state) (.refl s)
    (fun w _ h => h.trans (launchDistrict_keeps w.state _ _)) (fun _ _ h => h)
    (fun w _ h => h.trans (increment_keeps w.state _)) (fun _ _ h => h)

/-- A beat leaves these parts alone. -/
theorem takeBeat_keeps : BeatKeeps s (takeBeat s) := by
  have h := walk_keeps s
  unfold takeBeat
  dsimp only
  split
  · exact h
  · exact ⟨h.1, h.2, h.3, h.4, h.5, h.6, h.7, h.8, h.9, h.10⟩

end Sys2Proof.Machine
end

