-- ==== Sys2Proof/Laws/Requests.lean ====
section
/-! SUPPORT. The taking of a request: what no answer touches, and the whole of the step in which a frame
arrives and is taken at once. -/

namespace Sys2Proof.Machine

variable (s : State)

/-- What no answer changes in the Link Interface: the buffers, the transmitter and the receiver. -/
structure AnswerKeeps (s t : State) : Prop where
  receiveBuffer : t.link.receiveBuffer = s.link.receiveBuffer
  replyQueue : t.link.replyQueue = s.link.replyQueue
  sending : t.link.sending = s.link.sending
  receiver : t.link.receiver = s.link.receiver
  gapTimer : t.link.gapTimer = s.link.gapTimer
  rate : t.link.rate = s.link.rate

theorem AnswerKeeps.of_link {s t : State} (h : t.link = s.link) : AnswerKeeps s t := by
  constructor <;> rw [h]

theorem produceBeat_link : (produceBeat s).link = s.link := by
  simp [produceBeat, (takeBeat_keeps _).link]

theorem assertFault_link (f : FeedNo) : (assertFault f s).link = s.link := by simp [assertFault]

theorem takeLineLevel_link (f : FeedNo) (level : LineLevel) :
    (takeLineLevel f level s).link = s.link := by
  unfold takeLineLevel
  dsimp only
  split <;> simp [assertFault_link, releaseFault]

theorem configureFeed_link (f : FeedNo) (allowance width delay : Nat) (fault : FaultLevel) :
    (configureFeed f allowance width fault delay s).link = s.link := by
  unfold configureFeed
  dsimp only
  split <;> simp [takeLineLevel_link]

/-- No owner's answer touches the buffers, the transmitter or the receiver. -/
theorem answerRequest_keeps (k : RequestKind) (body : List Byte) :
    AnswerKeeps s (answerRequest k body s).state := by
  cases k
  case singleBeat => exact .of_link (produceBeat_link s)
  case linkStatus => constructor <;> rfl
  case reset => constructor <;> rfl
  all_goals
    simp only [answerRequest, answerIdentify, answerConfigureDistrict, answerReadDistrict,
      answerConfigureFeed, answerReadFeed, answerConfigureGroup, answerConfigureBeat, answerOn,
      answerOff, answerAllOff, answerClear, answerHold, answerRelease, answerSetPolarity,
      answerReadSummary, answerReadCounters, answerReadAndClearCounters, answerCounterRead,
      answerConfigureCounters, answerConfigureStatusLine, answerConfigureNotices,
      answerSetIncidentWrap, refuse]
    repeat' split
    all_goals exact .of_link (by simp [configureFeed_link, turnOff, changeRun])

/-- No answer touches the buffers, the transmitter or the receiver. -/
theorem answer_keeps (f : Frame) : AnswerKeeps s (answer f s).state := by
  unfold answer
  split
  · exact .of_link rfl
  · split
    · exact .of_link rfl
    · exact answerRequest_keeps s _ _

/-! ### A frame that is taken at once -/

/-- A settled part with no free place to fill: the transmitter finds no reply to begin with. -/
theorem sendReply_settled (h : LinkSettled s) : sendReply s = s := by
  unfold sendReply
  split
  · next hs hr => simp [(h.1 hs).1] at hr
  · rfl

/-- The part that takes a frame at once holds no frame before it. -/
theorem TakesAtOnce.receiveBuffer {s : State} (h : TakesAtOnce s) : s.link.receiveBuffer = [] := by
  obtain ⟨_, ⟨_, hb⟩, hq, hp⟩ := h
  rcases hb with hb | hb | hb
  · exact hb
  · omega
  · simp [hp] at hb

/-- The whole step in which a frame arrives and is taken at once: it is answered, its reply queued, and the
step closes (R140). -/
theorem requestArrives_takes {s : State} (h : TakesAtOnce s) (f : Frame) :
    requestArrives f s = closeEvent (queueReply (replyTo f (answer f s)) (answer f s).state) := by
  have hb := h.receiveBuffer
  obtain ⟨hh, hsettled, hq, hp⟩ := h
  have hdel : deliver f s = s.setLink { s.link with receiveBuffer := [f] } := by
    simp [deliver, hb, Config.receiveCapacity]
  have hsend : sendReply (s.setLink { s.link with receiveBuffer := [f] }) =
      s.setLink { s.link with receiveBuffer := [f] } := by
    unfold sendReply
    split
    · next hs hr => simp [(hsettled.1 hs).1] at hr
    · rfl
  have hcan : canTake (s.setLink { s.link with receiveBuffer := [f] }) = true := by
    simp [canTake, hq, hp, Config.replyCapacity]
  have hself : (s.setLink { s.link with receiveBuffer := [] }) = s := by
    simp [State.setLink, ← hb]
  have hold : takeOldest (s.setLink { s.link with receiveBuffer := [f] }) =
      queueReply (replyTo f (answer f s)) (answer f s).state := by
    simp only [takeOldest, State.setLink_link]
    have : ((s.setLink { s.link with receiveBuffer := [f] }).setLink
        { s.link with receiveBuffer := [] }) = s := by
      simp [State.setLink, ← hb]
    simp only [this, takeFrame]
  have hnext : ∀ v : State, v.link.receiveBuffer = [] → ∀ n, takeRequests n v = sendReply v := by
    intro v hv n
    have : (sendReply v).link.receiveBuffer = [] := by
      unfold sendReply
      split
      · simpa using hv
      · exact hv
    cases n with
    | zero => rfl
    | succ n => simp [takeRequests, canTake, this]
  have hempty : (queueReply (replyTo f (answer f s)) (answer f s).state).link.receiveBuffer = [] := by
    simp [queueReply, (answer_keeps s f).receiveBuffer, hb]
  unfold requestArrives whenTaken
  simp only [hh, Bool.not_false, Bool.and_self, ↓reduceIte]
  unfold closeLinkEvent
  rw [hdel]
  rw [show Config.receiveCapacity = 3 + 1 from rfl, takeRequests, hsend, hcan]
  simp only [↓reduceIte]
  rw [hold, hnext _ hempty]
  unfold closeEvent chooseNext
  rw [sendReply_idem]

/-- A request row is the arrival of its frame. -/
theorem exec_request {i : Instr} {f : Frame} (hf : i.frame? = some f) (s : State) :
    exec i s = .next (requestArrives f s) := by
  cases i <;> simp only [Instr.frame?, reduceCtorEq, Option.some.injEq] at hf <;> subst hf <;> rfl

/-- A request that is taken at once completes with its owner's answer: all that is left to compute is
`answer`. -/
theorem answersWith_of_answer {i : Instr} {f : Frame} {s u : State} {made : List Notice}
    {status : Byte} {contents : List Byte} (h : TakesAtOnce s) (hf : i.frame? = some f)
    (hns : (requestKindOf f.kind == some .reset && (answer f s).status == .ok) = false)
    (hst : statusByte (answer f s).status = status) (hc : (answer f s).contents = contents)
    (hu : (answer f s).state = { u with notices := handAll made u.notices }) :
    AnswersWith i s u made status contents := by
  refine ⟨f, _, hf, exec_request hf s, ?_⟩
  rw [requestArrives_takes h]
  refine closes_closeEvent ?_ ?_ ?_ ?_ ?_ ?_ ?_ ?_ ?_ ?_ ?_ ?_ ?_ ?_ ?_ <;>
    first
      | (simp [queueReply, hu]; done)
      | simp [queueReply, hu, replyTo, hns, hst, hc, replyKind]

/-- A request that its owner refuses. -/
theorem answersWith_refused {i : Instr} {k : RequestKind} {tag : Byte} {body : List Byte} {s : State}
    {status : Status} (h : TakesAtOnce s) (hf : i.frame? = some ⟨requestCode k, tag, body⟩)
    (hl : body.length = bodyLength k) (ha : answerRequest k body s = refuse status s)
    (hst : status ≠ .ok) : AnswersWith i s s [] (statusByte status) [] := by
  have ha' : answer ⟨requestCode k, tag, body⟩ s = refuse status s := by
    rw [answer_of_kind _ _ _ _ hl, ha]
  refine answersWith_of_answer h hf ?_ ?_ ?_ ?_ <;> rw [ha'] <;> simp [refuse, hst]

/-- A request other than Reset that its owner answers. -/
theorem answersWith_ok {i : Instr} {k : RequestKind} {tag : Byte} {body : List Byte} {s u : State}
    {status : Status} {made : List Notice} {contents : List Byte} (h : TakesAtOnce s)
    (hf : i.frame? = some ⟨requestCode k, tag, body⟩) (hl : body.length = bodyLength k)
    (hk : k ≠ .reset)
    (ha : answerRequest k body s =
      ⟨status, contents, { u with notices := handAll made u.notices }⟩) :
    AnswersWith i s u made (statusByte status) contents := by
  have ha' := ha
  rw [← answer_of_kind k tag _ _ hl] at ha'
  refine answersWith_of_answer h hf ?_ ?_ ?_ ?_ <;> rw [ha'] <;> simp [hk]

end Sys2Proof.Machine
end

