-- ==== Sys2Proof/Laws/Time.lean ====
section
/-! SUPPORT. The passage of time: which expiries are due, which of them is taken, and when the gap timer is
over. -/

namespace Sys2Proof.Machine

variable (s : State)

/-! ### The gap timer -/

@[simp] theorem gapOver_stopped : gapOver .stopped = false := rfl

@[simp] theorem gapOver_running (n : Nat) : gapOver (.running n) = (n == 0) := by cases n <;> rfl

@[simp] theorem gapOver_awaitingEnd (n : Nat) : gapOver (.awaitingEnd n) = (n == 0) := by cases n <;> rfl

theorem gapOver_iff (g : GapTimer) : gapOver g = true ↔ g = .running 0 ∨ g = .awaitingEnd 0 := by
  cases g <;> simp

/-- The gap expiry is due: the timer at 0 and no character arriving, or the time of that character over. -/
theorem gapDue_iff (now : Nat) (g : GapTimer) :
    gapDue now g = true ↔
      g = .running 0 ∧ Config.characterArriving now = false ∨ g = .awaitingEnd 0 := by
  cases g <;> simp +contextual [gapDue]

/-- The gap timer never runs up, but where it stands at 0 and a character is arriving. -/
theorem gapLeft_gapLater (rate : LinkRate) (g : GapTimer) (h : g ≠ .running 0) :
    gapLeft (gapLater rate g) = gapLeft g - 1 := by
  rcases g with _ | (_ | n) | n <;> simp_all [gapLater, gapLeft]

/-! ### What is due -/

theorem mem_districtDue (d : DistrictNo) (x : District) (c : Instr) :
    c ∈ districtDue d x ↔ x.timerLeft = 0 ∧
      (c = .settleExpiry d ∧ x.state = .settling ∧ x.timerPhase = .settle ∨
        c = .provingExpiry d ∧ x.state = .proving ∧ x.timerPhase = .proving ∨
        c = .backoffExpiry d ∧ x.state = .backoff ∧ x.timerPhase = .backoff) := by
  unfold districtDue
  rcases hp : x.timerPhase <;> rcases hs : x.state <;> split <;> simp_all

/-- The expiries that are due are those that the rules name. -/
theorem mem_dueCommands (c : Instr) : c ∈ dueCommands s ↔ ExpiryDue s c := by
  have feeds : (c ∈ allFeeds.flatMap fun f => feedDue f (s.feed f)) ↔
      ∃ f, c = .resumeExpiry f ∧ (s.feed f).state = .resuming ∧ (s.feed f).resumeTimer = some 0 := by
    simp only [List.mem_flatMap, allFeeds, List.mem_finRange, true_and]
    refine exists_congr fun f => ?_
    unfold feedDue; split <;> simp_all
  unfold dueCommands ExpiryDue
  rw [List.mem_append, List.mem_append, List.mem_append, feeds, or_assoc, or_assoc]
  refine or_congr (by simp [mem_districtDue, allDistricts]) (or_congr Iff.rfl ?_)
  unfold beatsDue linkDue
  rw [List.mem_append, List.mem_append, or_assoc]
  refine or_congr (by split <;> simp_all) (or_congr (by split <;> simp_all)
    (or_congr (by rw [← gapDue_iff]; split <;> simp_all) ?_))
  split
  · simp_all
  · rename_i x h
    by_cases e : x.left = 0 <;> by_cases r : x.softReset = true <;> simp [h, e, r]

/-- The expiry that is taken next is one of those due. -/
theorem nextDue_mem (k : Nat) (due : List Instr) {c : Instr} (h : nextDue k due = some c) : c ∈ due := by
  unfold nextDue at h
  split at h
  · cases h
  · simp_all
  · exact List.mem_of_getElem? h

/-- Where an expiry is due, one is taken. -/
theorem nextDue_none (k : Nat) (due : List Instr) : nextDue k due = none ↔ due = [] := by
  unfold nextDue
  split
  · simp
  · simp
  · rename_i due h _
    have := Nat.mod_lt (Config.choice k) (List.length_pos_iff.mpr h)
    simpa [List.getElem?_eq_getElem this] using h

end Sys2Proof.Machine
end

