-- ==== Sys2Proof/Tests/Slice0.lean ====
section
/-! SUPPORT. Tests of the model: what WellFormed refuses, steps of the manual's worked examples with the
values the manual prints, and for every statement a concrete state and operands that meet its hypotheses,
clause by clause, at the boundary values of their ranges. -/

namespace Sys2Proof.Tests

set_option Elab.async false
set_option synthInstance.maxSize 4000
set_option synthInstance.maxHeartbeats 200000

open Sys2Proof.Machine

/-! ### Small states -/

/-- What holds of the state that a command leaves. -/
def leaves (c : Instr) (s : State) (p : State → Bool) : Bool :=
  match exec c s with
  | .next t => p t
  | .fault _ | .refused _ => false

/-- The bytes on the transmit line. -/
def onLine (s : State) : List Byte := (s.link.sending.map (·.bytes)).getD []

/-- The state after reset with the record of district 4 changed. -/
def with4 (change : District → District) : State :=
  State.reset.setDistrict 4 (change (State.reset.district 4))

/-- District 4 in Energized, as section 9.9 has it. -/
def energized4 : State :=
  with4 fun x => { x with state := .energized, switchClosed := true, attemptsLeft := 5, flipArmed := true }

/-- District 4 in Settling with a claim of 20 on feed 0, its settle timer at 0. -/
def settling4 (provingTime : Nat) : State :=
  (with4 fun x =>
    { x with
      config := { x.config with provingTime := provingTime }
      state := .settling, switchClosed := true, timerPhase := .settle, timerLeft := 0
      attemptsLeft := 4, heldClaim := some 20, peakInSettle := 236, flipArmed := true }).setFeed 0
    { State.reset.feed 0 with heldSum := 20 }

/-- District 4 in Ready. -/
def ready4 : State := with4 fun x => { x with state := .ready, attemptsLeft := 5 }

/-- District 4 reversing, with a flip level, in Energized or in Ready. -/
def reversing4 (closed : Bool) : State :=
  with4 fun x =>
    { x with
      config := { x.config with kind := .reversing, flipLevel := 800 }
      state := if closed then .energized else .ready
      switchClosed := closed, attemptsLeft := 5, flipArmed := true }

/-- The part while its reset input is low. -/
def heldState : State := startHardReset State.reset

/-- A reply that waits or is sent. -/
def someReply (softReset : Bool) : Reply := ⟨⟨0x89, 1, [0]⟩, softReset⟩

/-- A frame on the line. -/
def someTransmission (softReset : Bool) : Transmission := transmission .baud57600 (someReply softReset).frame softReset

/-- The link busy, its reply queue holding `replies` and its receive buffer `frames` requests. -/
def busy (replies frames : Nat) (resetPending : Bool) : State :=
  State.reset.setLink
    { State.reset.link with
      sending := some (someTransmission false)
      replyQueue := List.replicate replies (someReply false)
      receiveBuffer := List.replicate frames ⟨0x09, 1, [4]⟩
      resetPending := resetPending }

/-- The receiver in a given state inside a frame, its gap timer at 0. -/
def receiving (r : Receiver) : State :=
  State.reset.setLink { State.reset.link with receiver := r, gapTimer := .running 0 }

/-- The interval timer of a state at 0. -/
def intervalOver (s : State) : State := s.setBeats { s.beats with intervalTimer := some 0 }

/-- The last stop bit of the frame being sent has been sent. -/
def sent (s : State) : State :=
  s.setLink { s.link with sending := s.link.sending.map fun x => { x with left := 0 } }

/-! ### WellFormed -/

theorem test_wellFormed_sample :
    (Instr.sample 0 100 true).wellFormed = false ∧ (Instr.sample 0 4095 true).wellFormed = true := by
  decide +kernel

theorem test_wellFormed_body :
    (Instr.on 0 (List.replicate 61 0)).wellFormed = false ∧
    (Instr.on 0 (List.replicate 60 0)).wellFormed = true := by decide +kernel

theorem test_wellFormed_unknown :
    (Instr.unknownKindRequest 0x09 0 []).wellFormed = false ∧
    (Instr.unknownKindRequest 0x60 0 []).wellFormed = true := by decide +kernel

/-! ### The manual's worked examples -/

/-- Section 9.9, first request: Hold of district 4 with tag 2Ah. -/
theorem test_hold_reply :
    leaves (.hold 0x2A [4]) energized4 (fun t =>
      onLine t == [0xC5, 0x03, 0x8D, 0x2A, 0x00, 0x46] && (t.district 4).holdMark) = true := by
  decide +kernel

/-- Section 9.9, second request: the Hold repeated is UNCHANGED. -/
theorem test_hold_unchanged :
    leaves (.hold 0x2B [4]) (with4 fun x => { x with state := .energized, holdMark := true }) (fun t =>
      onLine t == [0xC5, 0x03, 0x8D, 0x2B, 0x02, 0x43]) = true := by decide +kernel

/-- Section 9.9, third frame: the corrupted Release is discarded at its check byte. -/
theorem test_corrupted_release :
    leaves (.receiveByte 0xBF .high) (receiving (.collecting 3 [0x0E, 0x2C, 0x06])) (fun t =>
      t.link.tally == 1 && t.link.lastCause == some .check && t.link.receiver == .hunting) = true := by
  decide +kernel

/-- Section 9.9, fourth request: Link Status reads tally 1 and cause check. -/
theorem test_linkStatus_reply :
    leaves (.linkStatus 0x2D [])
      (State.reset.setLink { State.reset.link with tally := 1, lastCause := some .check }) (fun t =>
      onLine t == [0xC5, 0x05, 0x97, 0x2D, 0x00, 0x01, 0x04, 0x32] && t.link.tally == 0) = true := by
  decide +kernel

/-- Section 3.11, event 4: a hard trip in Settling with attempts left 4 and step 1. -/
theorem test_hard_trip :
    leaves (.sample 4 1350 false)
      ((settling4 20).setDistrict 4
        { (settling4 20).district 4 with backoffStep := 1, incident := 207, incidentOpen := true })
      (fun t =>
        let x := t.district 4
        x.state == .backoff && x.backoffStep == 2 && x.timerLeft == msTicks 500 && x.attemptsLeft == 4 &&
        x.incident == 207 && x.heldClaim == none && x.lastTripCause == some .hard &&
        (t.counter 20).value == 1 && (t.counter 21).value == 1 && (t.feed 0).heldSum == 0) = true := by
  decide +kernel

/-- Section 3.11, event 7: a peak-in-settle of 236 gives an observed peak of 24. -/
theorem test_settle_expiry :
    leaves (.settleExpiry 4) (settling4 20) (fun t =>
      let x := t.district 4
      x.state == .proving && x.observedPeak == some 24 && x.timerLeft == msTicks 2000 &&
      x.heldClaim == none && (t.feed 0).heldSum == 0) = true := by decide +kernel

/-- Section 3.12: the second trip of an attempt with no attempt left locks the district out. -/
theorem test_lockout :
    leaves (.sample 4 1200 false)
      (with4 fun x =>
        { x with state := .proving, switchClosed := true, timerPhase := .proving, timerLeft := 9 }) (fun t =>
      (t.district 4).state == .lockout && (t.counter 24).value == 1) = true := by decide +kernel

/-- Section 3.12: Clear leaves Lockout with the attempts reloaded and the incident open. -/
theorem test_clear :
    leaves (.clear 1 [4])
      (with4 fun x =>
        { x with state := .lockout, incident := 1, incidentOpen := true, backoffStep := 1 }) (fun t =>
      let x := t.district 4
      x.state == .ready && x.attemptsLeft == 5 && x.backoffStep == 0 && x.incident == 1 &&
      x.incidentOpen) = true := by decide +kernel

/-- Section 3.13, second order: a sample of 650 in Proving leaves 350 in the accumulator. -/
theorem test_excess :
    leaves (.sample 4 650 false) energized4 (fun t => (t.district 4).accumulator == 350) = true := by
  decide +kernel

/-- Section 7.8, event 4: Trips wraps from 65535 to 0 with the full mark set. -/
theorem test_counter_wraps : countUp .wrap ⟨65535, false, false⟩ = (⟨0, false, true⟩, some .full) := by
  decide +kernel

/-- Section 7.8 in stop mode: the counter stays and sets no mark. -/
theorem test_counter_stops : countUp .stop ⟨65535, false, false⟩ = (⟨65535, false, false⟩, none) := by
  decide +kernel

/-- Section 6.9, the event at 600 ms: an interval of 3 is clamped to 5. -/
theorem test_configureBeat_clamps :
    leaves (.configureBeat 7 [0, 3, 0, 5, 0])
      (State.reset.setBeats { State.reset.beats with mode := .external, intervalTimer := none }) (fun t =>
      t.beats.interval == 5 && t.beats.intervalTimer == some (msTicks 5) &&
      ((t.link.sending.map (·.bytes.drop 4)).getD []).take 6 == [1, 0, 5, 0, 5, 0]) = true := by
  decide +kernel

/-- Section 10.8: the Read District reply of district 11, byte by byte. -/
theorem test_readDistrict_reply :
    (answerReadDistrict [0x0B]
      (State.reset.setDistrict 11
        { State.reset.district 11 with
          config := { DistrictConfig.default with feed := 1 }
          state := .backoff, incidentOpen := true, flipArmed := true, timerPhase := .backoff
          timerLeft := msTicks 600, attemptsLeft := 3, backoffStep := 3, incident := 207
          observedPeak := some 24, lastTripCause := some .accumulated, peakInSettle := 236 })).contents =
      [0x0B, 1, 0, 0, 0xFF, 8, 0x2C, 1, 0xD0, 7, 0x14, 0xB0, 4, 0x90, 1, 0, 0, 0x32, 0x64, 0x14, 5,
        0x19, 0, 0x90, 1, 0x14, 0, 1, 1, 0x44, 3, 0x58, 2, 3, 3, 0xCF, 0, 0xFF, 0x18, 1, 0, 0, 0xEC, 0,
        0, 0, 0] := by decide +kernel

/-! ### Witnesses: steps, notices, counters -/

theorem witness_step : ({ State.reset with pending := [.intervalExpiry, .pulseExpiry] } : State).pending =
    .intervalExpiry :: [.pulseExpiry] := rfl

theorem witness_idle :
    State.reset.pending = [] ∧ State.reset.held = false ∧ heldState.pending = [] ∧
    heldState.held = true := by decide +kernel

/-- The pulse timer has run out. -/
def pulseOver : State := State.reset.setBeats { State.reset.beats with pulseTimer := some 0 }

theorem witness_idle_due : pulseOver.pending = [] ∧ pulseOver.held = false ∧ ExpiryDue pulseOver .pulseExpiry :=
  ⟨rfl, by decide +kernel, .inr (.inr (.inr (.inl ⟨rfl, rfl⟩)))⟩

theorem test_idle_brings_expiry : (match step pulseOver with
    | .next t => t.pending == [.pulseExpiry] && t.now == 0
    | _ => false) = true := by decide +kernel

theorem test_idle_ticks : dueCommands State.reset = [] ∧ (match step State.reset with
    | .next t => t.pending.isEmpty && t.now == 1 && t.beats.intervalTimer == some 230399
    | _ => false) = true := by decide +kernel

theorem witness_held : heldState.held = true ∧ Inv heldState := by decide +kernel

theorem witness_switchCloses :
    (ready4.district 4).switchClosed = false ∧
    leaves .intervalExpiry (intervalOver ready4) (fun t => (t.district 4).switchClosed) = true ∧
    leaves (.singleBeat 1 []) ready4 (fun t => (t.district 4).switchClosed) = true ∧
    leaves .transmissionEnd
      (sent (ready4.setLink { (busy 4 0 false).link with receiveBuffer := [⟨0x08, 1, []⟩] }))
      (fun t => (t.district 4).switchClosed) = true ∧
    framesAtHand (.singleBeat 1 []) ready4 = [⟨0x08, 1, []⟩] ∧ isSingleBeat ⟨0x08, 1, []⟩ = true := by
  decide +kernel

/-- A queue of `n` notices, every kind enabled. -/
def queueOf (n : Nat) : State :=
  State.reset.setNotices
    { State.reset.notices with entries := List.replicate n ⟨.feed 0 .normal, false⟩, kindMask := 63 }

theorem witness_noticeEntry :
    State.reset.notices.kindMask.getLsbD (maskBit (noticeKind (.feed 0 .normal))) = false ∧
    (queueOf 47).notices.kindMask.getLsbD (maskBit (noticeKind (.feed 0 .normal))) = true ∧
    (queueOf 47).notices.entries.length < 48 ∧
    (queueOf 48).notices.kindMask.getLsbD (maskBit (noticeKind (.counter 0 .full))) = true ∧
    48 ≤ (queueOf 48).notices.entries.length := by decide +kernel

/-- Counter 45 at a value, in a mode, with its notices on. -/
def counter45 (mode : CounterMode) (value : Nat) : State :=
  let s := State.reset.setCounter 45 ⟨value, true, false⟩
  { s with bank := { s.bank with mode := mode, noticeEnable := true } }

theorem witness_counterIncrement :
    ((counter45 .wrap 32766).counter 45).value ≤ 32766 ∧
    ((counter45 .wrap 32767).counter 45).value = 32767 ∧
    (32768 ≤ ((counter45 .stop 32768).counter 45).value ∧
      ((counter45 .stop 65533).counter 45).value ≤ 65533) ∧
    ((counter45 .stop 65534).counter 45).value = 65534 ∧
    ((counter45 .wrap 65535).counter 45).value = 65535 ∧ (counter45 .wrap 65535).bank.mode = .wrap ∧
    ((counter45 .stop 65535).counter 45).value = 65535 ∧ (counter45 .stop 65535).bank.mode = .stop := by
  decide +kernel

/-! ### Witnesses: requests -/

theorem witness_takesAtOnce :
    TakesAtOnce State.reset ∧ TakesAtOnce energized4 ∧ TakesAtOnce ready4 ∧
    TakesAtOnce (reversing4 true) ∧ TakesAtOnce (reversing4 false) ∧ TakesAtOnce (busy 3 0 false) := by
  decide +kernel

theorem witness_malformed :
    ((0x00 : Byte).toNat = 0 ∧ 25 ≤ (0x19 : Byte).toNat ∧ 25 ≤ (0xFF : Byte).toNat) ∧
    ((Instr.on 1 []).frame? = some ⟨0x09, 1, []⟩ ∧ requestKindOf 0x09 = some .on ∧
      ([] : List Byte).length ≠ bodyLength .on) := by decide +kernel

theorem witness_requestWaits :
    (Instr.on 1 [4]).frame? = some ⟨0x09, 1, [4]⟩ ∧
    ((busy 4 3 false).held = false ∧ LinkSettled (busy 4 3 false) ∧ LevelsFollow (busy 4 3 false) ∧
      4 ≤ (busy 4 3 false).link.replyQueue.length ∧ (busy 4 3 false).link.receiveBuffer.length < 4) ∧
    ((busy 0 4 true).held = false ∧ LinkSettled (busy 0 4 true) ∧ LevelsFollow (busy 0 4 true) ∧
      (busy 0 4 true).link.resetPending = true ∧ 4 ≤ (busy 0 4 true).link.receiveBuffer.length) := by
  decide +kernel

/-- The parent of district 1 is district 0. -/
def parent10 : State :=
  State.reset.setDistrict 1
    { State.reset.district 1 with config := { DistrictConfig.default with parent := some 0 } }

theorem witness_configureDistrict :
    ParentsAcyclic parent10 ∧ TakesAtOnce parent10 ∧
    FieldsFit { DistrictConfig.default with priority := 0, backoffCap := 65535, parent := some 1 } ∧
    (∀ n : Fin 24, ancestor parent10 n.val 1 ≠ some 2) ∧ (parent10.district 2).state = .off ∧
    ancestor parent10 1 1 = some 0 ∧ ancestor parent10 0 0 = some 0 := by decide +kernel

theorem witness_configureDistrict_energized :
    ParentsAcyclic energized4 ∧ (energized4.district 4).state ≠ .off ∧
    DistrictConfig.default.feed = (energized4.district 4).config.feed ∧
    (1 : FeedNo) ≠ (energized4.district 4).config.feed ∧ DistrictConfig.default.parent = none := by
  decide +kernel

/-- What a Configure District body with one byte changed is answered. -/
def answeredWith (offset : Nat) (b : Byte) : Status :=
  (answerConfigureDistrict ((configBytes 0 .default).set offset b) State.reset).status

theorem test_configureDistrict_checks :
    (answeredWith 0 24 = .badArg ∧ answeredWith 1 4 = .badArg ∧ answeredWith 2 2 = .badArg ∧
      answeredWith 3 9 = .badArg ∧ answeredWith 4 24 = .badArg ∧ answeredWith 4 254 = .badArg ∧
      answeredWith 27 2 = .badArg ∧ answeredWith 4 0 = .badArg) ∧
    (answeredWith 0 23 = .ok ∧ answeredWith 1 3 = .ok ∧ answeredWith 2 1 = .ok ∧
      answeredWith 3 8 = .ok ∧ answeredWith 4 23 = .ok ∧ answeredWith 27 0 = .ok ∧
      answeredWith 5 0 = .clamped ∧ answeredWith 5 15 = .ok) := by decide +kernel

theorem witness_onOff :
    (State.reset.district 4).state = .off ∧ (energized4.district 4).state ≠ .off ∧
    TakesAtOnce (settling4 20) ∧ ((settling4 20).district 4).state ≠ .off := by decide +kernel

theorem witness_allOff :
    ((0 : Byte).toNat = 0 ∧ 16 ≤ (16 : Byte).toNat ∧ (15 : Byte).toNat ≤ 15) ∧
    leaves (.allOff 1 [1]) (settling4 20) (fun t =>
      (t.district 4).state == .off && (t.feed 0).heldSum == 0 && onLine t == [0xC5, 3, 0x8B, 1, 0, 0x71])
      = true := by decide +kernel

theorem witness_clearHoldRelease :
    TakesAtOnce (with4 fun x => { x with state := .lockout }) ∧
    ((with4 fun x => { x with state := .lockout }).district 4).state = .lockout ∧
    (energized4.district 4).state ≠ .lockout ∧ (State.reset.district 4).state = .off := by decide +kernel

theorem witness_setPolarity :
    (State.reset.district 4).config.kind = .plain ∧
    ((reversing4 true).district 4).config.kind = .reversing ∧
    ((reversing4 true).district 4).switchClosed = true ∧
    ((reversing4 false).district 4).switchClosed = false ∧ (1 : Byte).toNat < 2 := by decide +kernel

theorem test_setPolarity :
    leaves (.setPolarity 1 [4, 1]) (reversing4 false) (fun t =>
      (t.district 4).polarity == .reversed && polarityOutput t 4 == .high &&
      onLine t == [0xC5, 3, 0x8F, 1, 0, 0x6D]) = true := by decide +kernel

theorem witness_configureFeed :
    TakesAtOnce (settling4 20) ∧ ((settling4 20).feed 0).heldSum = 20 ∧
    leaves (.configureFeed 1 [0, 19, 0, 2, 0, 50]) (settling4 20) (fun t =>
      onLine t == [0xC5, 3, 0x84, 1, 0x10, 0x68]) = true ∧
    leaves (.configureFeed 1 [0, 20, 0, 9, 0, 50]) (settling4 20) (fun t =>
      (t.feed 0).allowance == 20 && (t.feed 0).launchWidth == 8 &&
      (onLine t).take 5 == [0xC5, 10, 0x84, 1, 1]) = true := by decide +kernel

/-- Feed 0 Suspended, its fault input low. -/
def suspended0 : State :=
  { State.reset.setFeed 0 { State.reset.feed 0 with state := .suspended, lineLevel := .asserted } with
    pins := { State.reset.pins with faultInput := State.reset.pins.faultInput.set 0 .low } }

/-- Feed 0 Resuming. -/
def resuming0 : State :=
  State.reset.setFeed 0 { State.reset.feed 0 with state := .resuming, resumeTimer := some 0 }

theorem witness_faultLevel :
    FaultLevel.activeHigh ≠ (State.reset.feed 0).faultLevel ∧
    readFault .activeHigh State.reset.pins.faultInput[0] = .asserted ∧
    (State.reset.feed 0).state ≠ .suspended ∧ TakesAtOnce suspended0 ∧
    readFault .activeHigh suspended0.pins.faultInput[0] = .released ∧
    (suspended0.feed 0).state = .suspended ∧ (suspended0.feed 0).heldSum ≤ 50 := by decide +kernel

theorem witness_feedEdges :
    (State.reset.pins.faultInput[0] ≠ .low ∧
      readFault (State.reset.feed 0).faultLevel .low = .asserted ∧ State.reset.held = false) ∧
    (suspended0.pins.faultInput[0] ≠ .high ∧
      readFault (suspended0.feed 0).faultLevel .high = .released ∧ suspended0.held = false) ∧
    ((resuming0.feed 0).state = .resuming ∧ (resuming0.feed 0).resumeTimer = some 0) ∧
    (State.reset.feed 0).resumeTimer = none := by decide +kernel

/-- Edges that only record the line level: states no run reaches, where the line and the state disagree. -/
theorem witness_feedEdges_recorded :
    (let s := { State.reset with pins := suspended0.pins };
      s.pins.faultInput[0] ≠ .high ∧ readFault (s.feed 0).faultLevel .high = .released ∧
        (s.feed 0).state ≠ .suspended) ∧
    (let s := { suspended0 with pins := State.reset.pins };
      s.pins.faultInput[0] ≠ .low ∧ readFault (s.feed 0).faultLevel .low = .asserted ∧
        (s.feed 0).state = .suspended) := by decide +kernel

/-- A suspension returns a settling member to Ready with its attempt refunded (R75, R76). -/
theorem test_feed_suspends :
    leaves (.feedFaultEdge 0 .low) (settling4 20) (fun t =>
      (t.feed 0).state == .suspended && (t.feed 0).heldSum == 0 && (t.district 4).state == .ready &&
      (t.district 4).attemptsLeft == 5 && (t.district 4).feedLossMark && (t.counter 120).value == 1)
      = true := by decide +kernel

theorem test_readSummary :
    (answerReadSummary [] suspended0).contents =
      List.replicate 24 0 ++ [1, 0, 0, 0] ++ [23, 0] := by decide +kernel

theorem witness_refusedBytes :
    (answerReadFeed [4] State.reset).status = .badArg ∧
    (answerConfigureGroup [0, 0] State.reset).status = .badArg ∧
    (answerConfigureGroup [9, 0] State.reset).status = .badArg ∧
    (answerConfigureGroup [8, 2] State.reset).status = .badArg ∧
    (answerConfigureGroup [8, 1] State.reset).status = .ok ∧
    (answerConfigureGroup [1, 0] State.reset).status = .unchanged ∧
    (answerConfigureCounters [2, 0] State.reset).status = .badArg ∧
    (answerConfigureCounters [0, 2] State.reset).status = .badArg ∧
    (answerConfigureCounters [1, 1] State.reset).status = .ok ∧
    (answerConfigureBeat [3, 0, 0, 0, 0] State.reset).status = .badArg ∧
    (answerConfigureNotices [64, 0] State.reset).status = .badArg ∧
    (answerConfigureNotices [63, 2] State.reset).status = .badArg ∧
    (answerConfigureNotices [63, 1] State.reset).status = .ok ∧
    (answerReadCounters [128, 1] State.reset).status = .badArg ∧
    (answerReadCounters [0, 0] State.reset).status = .badArg ∧
    (answerReadCounters [0, 17] State.reset).status = .badArg ∧
    (answerReadCounters [113, 16] State.reset).status = .badArg ∧
    (answerReadCounters [112, 16] State.reset).status = .ok ∧
    (answerReadAndClearCounters [127, 1] State.reset).status = .ok := by decide +kernel

theorem witness_statusLine :
    (answerConfigureStatusLine [8, 0, 0, 0] State.reset).status = .badArg ∧
    (answerConfigureStatusLine [7, 14, 0, 0] State.reset).status = .badArg ∧
    (answerConfigureStatusLine [7, 6, 24, 0] State.reset).status = .badArg ∧
    (answerConfigureStatusLine [7, 9, 4, 0] State.reset).status = .badArg ∧
    (answerConfigureStatusLine [7, 13, 255, 2] State.reset).status = .badArg ∧
    (sourceObjectByte (.districtReversed 23) ≠ 0xFF ∧ sourceObjectByte .beatPulse = 0xFF) ∧
    leaves (.configureStatusLine 1 [7, 1, 9, 1]) State.reset (fun t =>
      (t.line 7).level == .low && (onLine t).take 10 == [0xC5, 8, 0x94, 1, 0, 7, 1, 0xFF, 1, 0]) = true
    := by decide +kernel

theorem test_readAndClear :
    leaves (.readAndClearCounters 1 [45, 1]) (counter45 .wrap 65535) (fun t =>
      (t.counter 45) == ⟨0, false, false⟩ && (onLine t).take 10 == [0xC5, 8, 0x92, 1, 0, 45, 1, 255, 255, 1])
      = true := by decide +kernel

theorem test_identify :
    leaves (.identify 1 []) State.reset (fun t =>
      ((onLine t).drop 4).take 13 == [0, 0x18, 0x24, 1, 24, 4, 8, 8, 128, 48, 4, 4, 0]) = true := by
  decide +kernel

/-! ### Witnesses: samples, expiries, beats -/

theorem witness_sampleEvaluation :
    let x := (reversing4 true).district 4
    let plain := energized4.district 4
    (x.config.hardLimit ≤ 1200 ∧ x.config.kind = .reversing ∧ x.flipArmed = true ∧
      x.config.flipLevel ≠ 0) ∧
    (plain.config.hardLimit ≤ 1200 ∧ plain.config.kind ≠ .reversing) ∧
    (1199 < x.config.hardLimit ∧ x.config.tripThreshold < 1199 ∧
      x.config.flipLevel ≤ min (x.accumulator + (1199 - x.config.tripThreshold)) 65535) ∧
    (1199 < plain.config.hardLimit ∧ plain.config.tripThreshold < 301 ∧
      ¬plain.config.flipLevel ≠ 0) ∧
    (300 < plain.config.hardLimit ∧ 300 ≤ plain.config.tripThreshold) := by decide +kernel

theorem witness_samples :
    (State.reset.held = false ∧ (State.reset.district 4).switchClosed = false) ∧
    (energized4.held = false ∧ (energized4.district 4).switchClosed = true ∧
      (evaluateSample 300 (sensed (energized4.district 4) 300 false)).2 = .pass) ∧
    ((reversing4 true).held = false ∧ ((reversing4 true).district 4).switchClosed = true ∧
      (evaluateSample 1200 (sensed ((reversing4 true).district 4) 1200 false)).2 = .flip) ∧
    (evaluateSample 4095 (sensed (energized4.district 4) 4095 true)).2 = .trip .hard ∧
    (evaluateSample 301 (sensed { energized4.district 4 with accumulator := 1999 } 301 false)).2 =
      .trip .accumulated := by decide +kernel

theorem test_flip :
    leaves (.sample 4 1200 false) (reversing4 true) (fun t =>
      (t.district 4).polarity == .reversed && (t.district 4).state == .energized &&
      !(t.district 4).flipArmed && (t.counter 22).value == 1) = true := by decide +kernel

theorem witness_backoffLength :
    1 ≤ 15 ∧ ConfigInRange .default ∧ backoffMs .default 1 = 250 ∧ backoffMs .default 4 = 2000 ∧
    backoffMs .default 5 = 4000 ∧ backoffMs .default 15 = 4000 ∧
    backoffMs { DistrictConfig.default with backoffBase := 1, backoffCap := 6000 } 13 = 40960 ∧
    backoffMs { DistrictConfig.default with backoffBase := 1, backoffCap := 6000 } 14 = 60000 := by
  decide +kernel

/-- District 4 in Proving, its proving timer at 0. -/
def proving4 : State :=
  with4 fun x =>
    { x with
      state := .proving, switchClosed := true, timerPhase := .proving, timerLeft := 0
      attemptsLeft := 2, incident := 207, incidentOpen := true }

/-- District 4 in Backoff, its backoff timer at 0. -/
def backoff4 : State :=
  with4 fun x =>
    { x with
      state := .backoff, timerPhase := .backoff, timerLeft := 0, attemptsLeft := 2, incidentOpen := true }

theorem witness_expiries :
    (((settling4 20).district 4).timerPhase = .settle ∧ ((settling4 20).district 4).timerLeft = 0 ∧
      ((settling4 20).district 4).config.provingTime ≠ 0 ∧ (settling4 20).held = false) ∧
    (((settling4 0).district 4).timerPhase = .settle ∧
      ((settling4 0).district 4).config.provingTime = 0) ∧
    ((proving4.district 4).state = .proving ∧ (proving4.district 4).timerPhase = .proving ∧
      (proving4.district 4).timerLeft = 0) ∧
    ((backoff4.district 4).state = .backoff ∧ (backoff4.district 4).timerPhase = .backoff ∧
      (backoff4.district 4).timerLeft = 0) ∧
    (State.reset.district 4).timerPhase = .idle ∧ State.reset.beats.pulseTimer = none := by decide +kernel

/-- Section 3.11, event 12: the Proven notice carries incident 207 and 5 − 2 attempts used. -/
theorem test_proving_expiry :
    leaves (.provingExpiry 4)
      (proving4.setNotices { proving4.notices with kindMask := 63, flow := false }) (fun t =>
      (t.district 4).state == .energized && (t.district 4).attemptsLeft == 5 &&
      (t.district 4).incident == 0 && t.notices.entries == [⟨.proven 4 207 3, false⟩]) = true := by
  decide +kernel

/-- The Beat Generator in External mode, the last beat at time 0. -/
def external (now : Nat) : State :=
  { State.reset with
    now := now
    beats := { State.reset.beats with mode := .external, intervalTimer := none, lastBeat := some 0, pulseTimer := some 0 } }

theorem witness_beats :
    (State.reset.beats.mode = .internal ∧ State.reset.beats.intervalTimer ≠ some 0) ∧
    ((intervalOver ready4).beats.mode = .internal ∧ (intervalOver ready4).beats.intervalTimer = some 0) ∧
    ((external 23040).beats.mode = .external ∧
      (external 23040).beats.spacing * 1152 ≤ (external 23040).now - 0) ∧
    ((external 23039).now - 0 < (external 23039).beats.spacing * 1152 ∧
      (external 23039).beats.lastBeat = some 0) ∧
    (external 0).beats.intervalTimer = none ∧ (external 0).beats.pulseTimer = some 0 := by decide +kernel

/-- R107, request first: Configure Beat restarts the interval timing, and the expiry is not taken. -/
theorem test_interval_restarted :
    leaves (.configureBeat 1 [0, 100, 0, 20, 0]) (intervalOver ready4) (fun t =>
      leaves .intervalExpiry t (fun u => decide (u = t))) = true := by decide +kernel

/-- R112: a pulse that a beat restarted goes on until 1 ms after that beat. -/
theorem test_pulse_restarted :
    leaves (.singleBeat 1 []) pulseOver (fun t =>
      leaves .pulseExpiry t (fun u => u.beats.pulseTimer == some 1152)) = true := by decide +kernel

/-- Four districts in Ready on feed 0, claims 30, 25 and 10, and a synchronized pair on feed 1. -/
def fourReady : State :=
  let ready (feed : FeedNo) (claim : Nat) (group : Option GroupNo) : District :=
    { District.initial with
      config := { DistrictConfig.default with feed := feed, declaredClaim := claim, group := group }
      state := .ready, attemptsLeft := 3 }
  let s := (((((State.reset.setDistrict 1 (ready 0 30 none)).setDistrict 4 (ready 0 25 none)).setDistrict
    19 (ready 0 10 none)).setDistrict 7 (ready 1 15 (some 1))).setDistrict 16 (ready 1 20 (some 1)))
  { s with groupModes := s.groupModes.set 1 .synchronized }

theorem witness_scheduler :
    (∀ d, ConfigInRange (fourReady.district d).config) ∧ ParentsAcyclic fourReady ∧
    walkOrder fourReady = [1] ++ 4 :: ([7, 16] ++ 19 :: []) ∧
    (launchedAt fourReady 1 = true ∧ launchedAt fourReady 4 = false ∧ launchedAt fourReady 19 = false) ∧
    (fourReady.district 4).config.feed = (fourReady.district 19).config.feed ∧
    (fourReady.district 4).config.group = none ∧ (fourReady.district 19).config.group = none ∧
    fourReady.groupMode 1 = .synchronized ∧ launchedAt fourReady 7 = true ∧
    launchedAt fourReady 16 = true ∧ (fourReady.district 16).config.group = some 1 := by decide +kernel

/-- The no-overtaking rule: district 4 does not fit beside district 1, and district 19 waits behind it. -/
theorem test_beat :
    leaves .intervalExpiry (intervalOver fourReady) (fun t =>
      (t.feed 0).heldSum == 30 && (t.feed 1).heldSum == 35 && t.rotation == 16 &&
      (t.counter 121).value == 1 && (t.counter 123).value == 0 && (t.counter 8).value == 1) = true := by
  decide +kernel

/-- Beat 1 of section 5.11 as it finds the part, with a seventh district, 20, behind the pair on feed 1. -/
def derailment : State :=
  let ready (d : DistrictNo) (feed : FeedNo) (priority claim : Nat) (group : Option GroupNo)
      (parent : Option DistrictNo) (s : State) : State :=
    s.setDistrict d
      { District.initial with
        config :=
          { DistrictConfig.default with
            feed := feed, priority := priority, declaredClaim := claim, group := group, parent := parent }
        state := .ready, attemptsLeft := 3, incident := 9, incidentOpen := true }
  let s := (State.reset.setFeed 1 { State.reset.feed 1 with allowance := 40 }).setNotices
    { State.reset.notices with kindMask := 63, flow := false }
  let s := ready 1 0 2 30 none none (ready 4 0 5 25 none none (ready 19 0 8 10 none none s))
  let s := ready 7 0 5 15 (some 1) none (ready 16 1 5 20 (some 1) (some 7) s)
  let s := ready 10 1 3 30 none none (ready 20 1 9 5 none none s)
  { s with rotation := 5, groupModes := s.groupModes.set 1 .synchronized }

/-- The launches, the pointer, the held sums, the Budget waits and the notices that section 5.11 gives. -/
theorem test_derailment :
    let t := takeBeat derailment
    walkOrder derailment = [1, 10, 7, 16, 4, 19, 20] ∧
    allDistricts.filter (fun d => (t.district d).state == .settling) = [1, 10] ∧ t.rotation = 10 ∧
    (t.feed 0).heldSum = 30 ∧ (t.feed 1).heldSum = 30 ∧ (t.counter 121).value = 1 ∧
    (t.counter 123).value = 1 ∧
    t.notices.entries = [⟨.launch 1 9 30 false, false⟩, ⟨.launch 10 9 30 false, false⟩] := by
  decide +kernel

theorem witness_decisions :
    (onItsOwn derailment 1 = true ∧ onItsOwn derailment 4 = true ∧ onItsOwn derailment 20 = true ∧
      inSync derailment 1 7 = true ∧ inSync derailment 1 16 = true) ∧
    (turn derailment 16 = 2 ∧ turn derailment 4 = 4 ∧ turn derailment 19 = 5 ∧ turn derailment 20 = 6) ∧
    launchedAt derailment 4 = false ∧ groupWaits derailment 1 = false ∧
    groupFitsOn derailment 2 1 0 = true ∧ groupFitsOn derailment 2 1 1 = false ∧
    blockedBefore derailment 5 0 = true ∧ budgetFailsAt derailment 4 0 = true ∧
    budgetFailsAt derailment 7 1 = true ∧ budgetFailsAt derailment 19 0 = false := by decide +kernel

theorem test_singleBeat :
    leaves (.singleBeat 1 []) ready4 (fun t =>
      (t.district 4).state == .settling && t.beats.pulseTimer == some 1152 && t.rotation == 4) = true := by
  decide +kernel

/-! ### Witnesses: the link and the resets -/

theorem witness_frameReceived :
    (Instr.on 1 [4]).frame? = some ⟨0x09, 1, [4]⟩ ∧ ([4] : List Byte).length ≤ 60 ∧
    State.reset.held = false ∧ LinkSettled State.reset ∧ LevelsFollow State.reset ∧
    State.reset.link.receiver = .hunting ∧ State.reset.link.gapTimer = .stopped := by decide +kernel

theorem witness_receiver :
    (LinkSettled (receiving .awaitingLength) ∧ LevelsFollow (receiving .awaitingLength) ∧
      (receiving .awaitingLength).held = false) ∧
    ((0xC5 : Byte) = 0xC5 ∧ (0xC4 : Byte) ≠ 0xC5 ∧ 2 ≤ (2 : Byte).toNat ∧ (62 : Byte).toNat ≤ 62 ∧
      (1 : Byte).toNat < 2 ∧ 63 ≤ (63 : Byte).toNat) ∧
    (LinkSettled (receiving (.collecting 2 [9])) ∧ [(9 : Byte)].length < 2) ∧
    (LinkSettled (receiving (.collecting 2 [9, 1])) ∧ [(9 : Byte), 1].length = 2 ∧
      BitVec.ofNat 8 2 + ([(9 : Byte), 1] ++ [0]).sum ≠ 0) ∧
    ((receiving .awaitingLength).link.receiver ≠ .hunting ∧
      (receiving .awaitingLength).link.gapTimer = .running 0) := by decide +kernel

theorem test_frame_taken :
    leaves (.receiveByte 0xF0 .low) (receiving (.collecting 3 [0x09, 0x00, 0x04])) (fun t =>
      (t.district 4).state == .ready && onLine t == [0xC5, 3, 0x89, 0, 0, 0x74]) = true := by decide +kernel

/-- R136: a byte that began before the gap timer ran out is part of the frame, and no expiry comes before it. -/
theorem test_gap_awaits_end :
    let s := State.reset.setLink
      { State.reset.link with receiver := .awaitingLength, gapTimer := gapLater .baud57600 (.running 0) }
    gapDue 0 s.link.gapTimer = false ∧ leaves .gapExpiry s (fun t => decide (t = s)) = true ∧
    leaves (.receiveByte 2 .high) s (fun t => t.link.receiver == .collecting 2 []) = true := by
  decide +kernel

theorem witness_transmissionEnd :
    (State.reset.link.sending = none ∧ State.reset.held = false) ∧
    ((someTransmission false).left ≠ 0 ∧ (someTransmission false).softReset = false) ∧
    ((sent (busy 1 0 false)).link.sending = some { someTransmission false with left := 0 } ∧
      (sent (busy 1 0 false)).link.receiveBuffer = []) ∧
    ((busy 4 2 false).link.receiveBuffer = ⟨0x09, 1, [4]⟩ :: [⟨0x09, 1, [4]⟩] ∧
      (busy 4 2 false).link.resetPending = false ∧
      (busy 4 2 false).link.replyQueue = someReply false :: List.replicate 3 (someReply false)) := by
  decide +kernel

/-- The first character of a frame, C5h: the start bit, then its bits from the least significant on. -/
theorem witness_lineCarries :
    (busy 0 0 false).link.sending = some (someTransmission false) ∧
    (someTransmission false).bytes.length = 6 ∧ (someTransmission false).left = 1200 ∧
    (10 * (6 - 0) - 0) * Config.bitTicks .baud57600 - 0 = 1200 ∧
    transmitLine (busy 0 0 false) = .low := by decide +kernel

/-- The Reset reply on the line. -/
def resetting : State :=
  State.reset.setLink
    { State.reset.link with sending := some (someTransmission true), resetPending := true }

theorem witness_softReset :
    resetting.held = false ∧
    (sent resetting).link.sending = some { someTransmission true with left := 0 } ∧
    (someTransmission true).softReset = true ∧ State.reset.link.sending = none := by decide +kernel

theorem test_softReset :
    leaves .softReset (sent (energized4.setLink resetting.link)) (fun t =>
      (t.district 4).state == .off && t.link.sending == none && !t.link.resetPending) = true := by
  decide +kernel

/-- The part without its supply. -/
def unsupplied (resetInput : Level) : State := setResetInput resetInput (loseSupply State.reset)

theorem witness_resets :
    (State.reset.pins.resetInput = .high ∧ heldState.pins.resetInput = .low ∧ HeldAtReset heldState ∧
      heldState.pins.supplyUp = true) ∧
    (HeldAtReset (unsupplied .low) ∧ (unsupplied .low).pins.resetInput = .low ∧
      (unsupplied .low).pins.supplyUp = false) ∧
    (HeldAtReset (unsupplied .high) ∧ (unsupplied .high).pins.resetInput = .high ∧
      (unsupplied .high).pins.supplyUp = false) ∧
    (HeldAtReset State.reset ∧ State.reset.pins.supplyUp = true) := by decide +kernel

theorem test_resetEnd :
    leaves (.resetEnd .baud230400) { heldState with pins := { suspended0.pins with resetInput := .low } }
      (fun t => (t.feed 0).state == .suspended && (t.feed 1).state == .normal &&
        t.link.rate == .baud230400 && t.beats.intervalTimer == some (msTicks 200)) = true := by
  decide +kernel

/-- The machine after reset meets the invariant, and a step from it exists: the premises of the laws that
every step keeps. -/
theorem witness_inv :
    Inv State.reset ∧ ∃ t, step State.reset = .next t := ⟨by decide +kernel, _, rfl⟩

end Sys2Proof.Tests
end

