-- ==== Sys2Proof/Proofs/SampleEvaluation.lean ====
section
/-! The evaluation of one sample (R26 to R33): what its steps do, one equation for each of
the three ways `evaluateSample` can go, and the statement on the evaluation put together from them. -/

namespace Sys2Proof.Machine

variable {I : Nat} {x : District}

/-! ### The detector's steps -/

/-- The three conditions of a flip (R32). -/
theorem mayFlip_iff :
    mayFlip x = true ↔
      x.config.kind = .reversing ∧ x.flipArmed = true ∧ x.config.flipLevel ≠ 0 := by
  simp [mayFlip, and_assoc]

/-- The trip check leaves the record and decides by the accumulator alone (R31). -/
theorem tripCheck_eq :
    tripCheck x =
      (x, if x.config.tripLevel ≤ x.accumulator then .trip .accumulated else .pass) := by
  unfold tripCheck
  split <;> rfl

/-- A drain arms the flip of a reversing district whose guard run is complete (R29), with that condition
as one proposition. -/
theorem drainStep_eq :
    drainStep x =
      { x with
        accumulator := x.accumulator - min x.accumulator x.config.drain
        guardRun := min (x.guardRun + 1) 255
        flipArmed := x.flipArmed || decide (x.config.kind = .reversing ∧
          x.config.guardLength ≤ min (x.guardRun + 1) 255) } := by
  simp only [drainStep, Bool.decide_and, beq_eq_decide]

/-! ### The three ways of an evaluation -/

/-- The hard limit comes first (R27). -/
theorem evaluateSample_hard (hard : x.config.hardLimit ≤ I) :
    evaluateSample I x = if mayFlip x then (flipRecord x, .flip) else (x, .trip .hard) :=
  if_pos hard

/-- The flip check follows an excess (R28, R30). An excess leaves all that R32 looks at, and a flip
overwrites what the excess wrote, so both stand on the record before it. -/
theorem evaluateSample_excess (below : I < x.config.hardLimit) (excess : effectiveThreshold x < I) :
    evaluateSample I x =
      if mayFlip x ∧ x.config.flipLevel ≤ (excessStep I x).accumulator then (flipRecord x, .flip)
      else tripCheck (excessStep I x) := by
  rw [evaluateSample, if_neg below.not_ge, if_pos excess]
  simp only [Bool.and_eq_true, decide_eq_true_eq]
  rfl

/-- A sample without excess drains and goes straight to the trip check (R29, R31). -/
theorem evaluateSample_drain (below : I < x.config.hardLimit) (noExcess : I ≤ effectiveThreshold x) :
    evaluateSample I x = tripCheck (drainStep x) := by
  rw [evaluateSample, if_neg below.not_ge, if_neg noExcess.not_gt]

/-! ### The statement -/

/-- Settles O35, from the three ways of an evaluation: the hard limit with and without a flip, an excess with
and without a flip, and the drain. -/
theorem sampleEvaluation : Obligations.SampleEvaluation := by
  intro I x
  refine ⟨fun hard flips => ?hardFlip, fun hard stays => ?hardTrip,
    fun below excess flips reached => ?excessFlip, fun below excess stays => ?excessStays,
    fun below noExcess => ?drain⟩
  case hardFlip => exact (evaluateSample_hard hard).trans (if_pos (mayFlip_iff.mpr flips))
  case hardTrip => exact (evaluateSample_hard hard).trans (if_neg (mt mayFlip_iff.mp stays))
  case excessFlip =>
    exact (evaluateSample_excess below excess).trans (if_pos ⟨mayFlip_iff.mpr flips, reached⟩)
  case excessStays =>
    have noFlip := mt (And.imp_left mayFlip_iff.mp) stays
    calc evaluateSample I x = tripCheck (excessStep I x) :=
          (evaluateSample_excess below excess).trans (if_neg noFlip)
      _ = _ := tripCheck_eq
  case drain =>
    calc evaluateSample I x = tripCheck (drainStep x) := evaluateSample_drain below noExcess
      _ = _ := by rw [tripCheck_eq, drainStep_eq]

end Sys2Proof.Machine
end

