-- ==== Sys2Proof/Proofs/CounterIncrement.lean ====
section
/-! The increment of a counter: the table of R116 row by row, the stop of R117, and what an increment leaves
of the state in the terms of the row it takes. -/

namespace Sys2Proof.Machine

/-! ### The rows of the table -/

section
variable {mode : CounterMode} {c : Counter}

/-- Away from 32767, 65534 and the top an increment sets no mark (R116). -/
theorem countUp_plain (below : c.value < 65534) (notHalf : c.value ≠ 32767) :
    countUp mode c = ({ c with value := c.value + 1 }, none) := by
  have notTop : c.value ≠ 65535 := by omega
  have notFull : c.value + 1 ≠ 65535 := by omega
  have notMiddle : c.value + 1 ≠ 32768 := by omega
  simp only [countUp, Config.counterTop, if_neg notTop, if_neg notFull, if_neg notMiddle]

/-- The increment that reaches 32768 sets the half mark (R116). -/
theorem countUp_half (h : c.value = 32767) :
    countUp mode c = ({ c with value := 32768, half := true }, some .half) := by
  simp [countUp, Config.counterTop, h]

/-- The increment that reaches 65535 sets the full mark (R116). -/
theorem countUp_full (h : c.value = 65534) :
    countUp mode c = ({ c with value := 65535, full := true }, some .full) := by
  simp [countUp, Config.counterTop, h]

/-- At the top the wrap clears the half mark, set or not, and sets the full mark (R116). -/
theorem countUp_wrap (h : c.value = 65535) : countUp .wrap c = (⟨0, false, true⟩, some .full) :=
  if_pos h

/-- At the top a counter in stop mode stays as it is (R117). -/
theorem countUp_stop (h : c.value = 65535) : countUp .stop c = (c, none) :=
  if_pos h

end

/-! ### The state after an increment -/

section
variable {s : State} {i : CounterIx} {x : Counter} {mark : Option AttentionMark}

/-- The notices of an increment are those of the mark it sets, while the enable is on (R119). -/
theorem countNotices_of_countUp (h : countUp s.bank.mode (s.counter i) = (x, mark)) :
    countNotices s i =
      if s.bank.noticeEnable then mark.toList.map (Notice.counter i) else [] := by
  cases mark with
  | none => simp [countNotices, h]
  | some m => simp [countNotices, h]

/-- An increment writes the counter of its row of the table and hands the notice of that row's mark; no
other counter and no other part changes. -/
theorem increment_of_countUp (h : countUp s.bank.mode (s.counter i) = (x, mark)) :
    increment i s =
      { s with
        bank := { s.bank with counters := s.bank.counters.set i.val x }
        notices := handAll
          (if s.bank.noticeEnable then mark.toList.map (Notice.counter i) else []) s.notices } := by
  rw [increment_eq, countNotices_of_countUp h, h]
  rfl

/-- Writing back a counter what it holds changes nothing. -/
theorem State.setCounter_same : s.setCounter i (s.counter i) = s := by
  simp [State.setCounter, State.counter]

/-- An increment that neither moves its counter nor sets a mark leaves the state as it is. -/
theorem increment_eq_self (h : countUp s.bank.mode (s.counter i) = (s.counter i, none)) :
    increment i s = s := by
  have noNotice : countNotices s i = [] := by simp [countNotices_of_countUp h]
  rw [increment_eq, h, noNotice, handAll_nil, State.setCounter_same]
  rfl

end

/-! ### The statement -/

/-- Settles O7: each row of the table is a case of `countUp`, and an increment carries it to the state. -/
theorem counterIncrement : Obligations.CounterIncrement := by
  intro i s
  refine ⟨fun low => ?low, fun middle => ?half, fun above below => ?high, fun last => ?full,
    fun top wraps => ?wrap, fun top stops => ?stop⟩
  case low => exact increment_of_countUp (countUp_plain (by omega) (by omega))
  case half => exact increment_of_countUp (countUp_half middle)
  case high => exact increment_of_countUp (countUp_plain (by omega) (by omega))
  case full => exact increment_of_countUp (countUp_full last)
  case wrap => exact increment_of_countUp (wraps ▸ countUp_wrap top)
  case stop => exact increment_eq_self (stops ▸ countUp_stop top)

end Sys2Proof.Machine
end

section
/-! The candidates of a beat and their walk order (R88, R89, R91): the chain of parents that the gate follows
ends, the order holds every candidate once, and a district is decided at one place of it. -/

namespace Sys2Proof.Machine

variable {s : State} {d e p : DistrictNo} {f : FeedNo} {g : GroupNo}

/-! ### Synchronized groups -/

/-- A district is in a synchronized group where its record names one (R86). -/
theorem syncGroup_eq_some : syncGroup s (s.district d) = some g ↔
    (s.district d).config.group = some g ∧ s.groupMode g = .synchronized := by
  unfold syncGroup
  split
  · next g' h =>
    simp only [h, Option.some.injEq]
    constructor
    · intro hs
      split at hs
      · next hm => cases hs; exact ⟨rfl, hm⟩
      · cases hs
    · rintro ⟨rfl, hm⟩; exact if_pos hm
  · next h => simp [h]

theorem inSync_iff : inSync s g d = true ↔ syncGroup s (s.district d) = some g := by
  simp [inSync, syncGroup_eq_some]

theorem onItsOwn_iff : onItsOwn s d = true ↔ syncGroup s (s.district d) = none := by
  simp [onItsOwn, List.all_eq_true, Option.eq_none_iff_forall_ne_some, ← inSync_iff]

/-! ### Candidates -/

/-- The gate of a district, where its parent's own candidacy is followed for `links` links (R89). -/
theorem candidateWithin_succ (links : Nat) : candidateWithin s (links + 1) d = true ↔
    readyToLaunch s (s.district d) = true ∧ ∀ p, (s.district d).config.parent = some p →
      parentUp (s.district p) = true ∨
        ∃ g, inSync s g d = true ∧ inSync s g p = true ∧ candidateWithin s links p = true := by
  rw [candidateWithin]
  rcases (s.district d).config.parent with _ | p
  · simp
  · simp only [inSync_iff, Bool.and_eq_true, Bool.or_eq_true, beq_iff_eq, Option.some.injEq,
      forall_eq', Option.isSome_iff_exists]
    refine and_congr_right fun _ => or_congr_right ?_
    constructor
    · rintro ⟨⟨⟨g, hg⟩, he⟩, hc⟩; exact ⟨g, hg, he ▸ hg, hc⟩
    · rintro ⟨g, hg, hp, hc⟩; exact ⟨⟨⟨g, hg⟩, hg.trans hp.symm⟩, hc⟩

/-- Past the end of the chain of parents no link changes anything (R10). -/
theorem candidateWithin_of_le {n m : Nat} (ends : parentChainEnds s n d = true) (le : n ≤ m) :
    candidateWithin s m d = candidateWithin s n d := by
  induction n generalizing m d with
  | zero => cases ends
  | succ n ih =>
    obtain ⟨m, rfl⟩ : ∃ k, m = k + 1 := ⟨m - 1, by omega⟩
    have parent : ∀ p, (s.district d).config.parent = some p →
        candidateWithin s m p = candidateWithin s n p := by
      intro p hp
      rw [parentChainEnds, hp] at ends
      exact ih ends (by omega)
    rw [Bool.eq_iff_iff, candidateWithin_succ, candidateWithin_succ]
    refine and_congr_right fun _ => forall₂_congr fun p hp => ?_
    rw [parent p hp]

/-- A candidate passes the first three conditions (R88). -/
theorem readyToLaunch_of_candidate (h : candidate s d = true) :
    readyToLaunch s (s.district d) = true :=
  ((candidateWithin_succ 23).mp h).1

theorem readyToLaunch_iff {x : District} : readyToLaunch s x = true ↔
    x.state = .ready ∧ x.holdMark = false ∧ (s.feed x.config.feed).state = .normal := by
  simp [readyToLaunch, and_assoc]

/-- A candidate is in Ready. -/
theorem ready_of_candidate (h : candidate s d = true) : (s.district d).state = .ready :=
  (readyToLaunch_iff.mp (readyToLaunch_of_candidate h)).1

/-- Settles O50: the gate looks one link up, and with the chain at its end one link fewer looks no less. -/
theorem candidateConditions : Obligations.CandidateConditions := by
  intro s d acyclic x
  have above : ∀ p, x.config.parent = some p → candidateWithin s 23 p = candidate s p := by
    intro p hp
    have ends := acyclic d
    rw [parentChainEnds, hp] at ends
    exact (candidateWithin_of_le ends (by omega)).symm
  rw [candidate, candidateWithin_succ, readyToLaunch_iff, and_assoc, and_assoc]
  refine and_congr_right fun _ => and_congr_right fun _ => and_congr_right fun _ =>
    forall₂_congr fun p hp => ?_
  rw [above p hp]
  simp only [parentUp, Bool.or_eq_true, beq_iff_eq, or_assoc, inSync, decide_eq_true_eq]
  refine or_congr_right (or_congr_right (exists_congr fun g => ?_))
  tauto

/-! ### The walk order -/

/-- The place of a district in the cyclic order that starts after the rotation pointer (R91). -/
theorem cyclicOrder_pairwise (r : DistrictNo) :
    (cyclicOrder r).Pairwise fun d e => (d - r - 1).val < (e - r - 1).val := by
  rw [cyclicOrder, List.pairwise_map]
  refine (List.pairwise_lt_finRange 24).imp fun {a b} h => ?_
  have place : ∀ k : DistrictNo, r + 1 + k - r - 1 = k := fun k => by abel
  rwa [place, place]

theorem mem_cyclicOrder (r d : DistrictNo) : d ∈ cyclicOrder r := by
  rw [cyclicOrder, List.mem_map]
  exact ⟨d - r - 1, List.mem_finRange _, by abel⟩

/-- The walk order holds the candidates whose priority is one of the fifteen (R91). -/
theorem mem_walkOrder : d ∈ walkOrder s ↔ candidate s d = true ∧
    1 ≤ (s.district d).config.priority ∧ (s.district d).config.priority ≤ 15 := by
  simp only [walkOrder, priorities, List.mem_flatMap, List.mem_range'_1, List.mem_filter,
    mem_cyclicOrder, true_and, Bool.and_eq_true, beq_iff_eq]
  constructor
  · rintro ⟨p, hp, hc, rfl⟩; exact ⟨hc, by omega⟩
  · rintro ⟨hc, hp⟩; exact ⟨_, by omega, hc, rfl⟩

/-- The walk order goes by priority, and within one priority by the cyclic order (R91). -/
theorem walkOrder_pairwise (s : State) : (walkOrder s).Pairwise fun d e =>
    (s.district d).config.priority < (s.district e).config.priority ∨
    ((s.district d).config.priority = (s.district e).config.priority ∧
      (d - s.rotation - 1).val < (e - s.rotation - 1).val) := by
  rw [walkOrder, List.pairwise_flatMap]
  constructor
  · intro p _
    refine List.Pairwise.imp_of_mem ?_ ((cyclicOrder_pairwise s.rotation).filter _)
    intro a b ha hb h
    simp only [List.mem_filter, Bool.and_eq_true, beq_iff_eq] at ha hb
    exact .inr ⟨ha.2.2.trans hb.2.2.symm, h⟩
  · refine (List.pairwise_lt_range' (s := 1) (n := 15)).imp fun {p q} hpq a ha b hb => ?_
    simp only [List.mem_filter, Bool.and_eq_true, beq_iff_eq] at ha hb
    exact .inl (by omega)

/-- No district stands twice in the walk order. -/
theorem walkOrder_nodup (s : State) : (walkOrder s).Nodup :=
  (walkOrder_pairwise s).imp fun {d e} h => by
    rintro rfl
    omega

theorem candidate_of_mem_walkOrder (h : d ∈ walkOrder s) : candidate s d = true :=
  (mem_walkOrder.mp h).1

/-- With every priority in its range the walk order holds every candidate. -/
theorem mem_walkOrder_of_inRange (inRange : ConfigInRange (s.district d).config) :
    d ∈ walkOrder s ↔ candidate s d = true := by
  obtain ⟨priority, _⟩ := inRange
  rw [mem_walkOrder]
  exact and_iff_left priority

/-- Settles O51. -/
theorem Laws.walkOrder : Obligations.WalkOrder := fun s inRange =>
  ⟨fun d => mem_walkOrder_of_inRange (inRange d), walkOrder_pairwise s⟩

end Sys2Proof.Machine
end

section
/-! The walk of a beat as a sequence of decisions (R90 to R97): each visit is a decision that is read off the
working values alone, launches some districts and fails on some feeds, and the working values at a place of
the walk follow from the launches decided before it. -/

namespace Sys2Proof.Machine

variable {s : State} {d e : DistrictNo} {f : FeedNo} {g : GroupNo} {w : Walk} {p : Nat}

/-! ### Lists of districts on a feed -/

/-- The districts of a list that are on feed `f`. -/
def onFeed (s : State) (f : FeedNo) (l : List DistrictNo) : List DistrictNo :=
  l.filter fun d => decide ((s.district d).config.feed = f)

/-- The effective claims of the districts of a list that are on feed `f`, together. -/
def claimsOn (s : State) (f : FeedNo) (l : List DistrictNo) : Nat := ((onFeed s f l).map (claimOf s)).sum

theorem claimAt_eq : claimAt s d = claimOf s d := rfl

@[simp] theorem onFeed_nil : onFeed s f [] = [] := rfl

@[simp] theorem onFeed_cons (l : List DistrictNo) : onFeed s f (d :: l) =
    if (s.district d).config.feed = f then d :: onFeed s f l else onFeed s f l := by
  simp [onFeed, List.filter_cons]

@[simp] theorem onFeed_append (l m : List DistrictNo) :
    onFeed s f (l ++ m) = onFeed s f l ++ onFeed s f m := List.filter_append ..

@[simp] theorem claimsOn_nil : claimsOn s f [] = 0 := rfl

@[simp] theorem claimsOn_cons (l : List DistrictNo) : claimsOn s f (d :: l) =
    (if (s.district d).config.feed = f then claimOf s d else 0) + claimsOn s f l := by
  unfold claimsOn
  rw [onFeed_cons]
  split <;> simp

@[simp] theorem claimsOn_append (l m : List DistrictNo) :
    claimsOn s f (l ++ m) = claimsOn s f l + claimsOn s f m := by
  simp [claimsOn]

/-! ### Decisions -/

/-- What the walk decides at one candidate: the districts launched, and the feeds on which it fails, each with
the first test it fails there. -/
structure Decision where
  launches : List DistrictNo
  failure : FeedNo → Option FitFailure

/-- Nothing is launched and nothing fails. -/
def Decision.nothing : Decision := ⟨[], fun _ => none⟩

/-- The decision on a candidate on its own (R92). -/
def aloneDecision (s : State) (d : DistrictNo) (w : Walk) : Decision :=
  let f := (s.district d).config.feed
  if w.work[f.val].blocked = true ∨ (s.feed f).launchWidth ≤ w.work[f.val].count then .nothing
  else if claimOf s d ≤ w.work[f.val].free then ⟨[d], fun _ => none⟩
  else ⟨[], fun f' => if f' = f then some .budget else none⟩

/-- The decision on a synchronized group that is reached (R94 to R96). -/
def groupDecision (s : State) (g : GroupNo) (w : Walk) : Decision :=
  if groupWaits s g then .nothing
  else if ∀ f, groupFit s (groupMembers s g (walkOrder s)) w f = none then
    ⟨groupMembers s g (walkOrder s), fun _ => none⟩
  else ⟨[], groupFit s (groupMembers s g (walkOrder s)) w⟩

/-- The decision at candidate `d`, nothing where its group has been decided (R97). -/
def decisionOn (s : State) (w : Walk) (d : DistrictNo) : Decision :=
  match syncGroup s (s.district d) with
  | none => aloneDecision s d w
  | some g => if g ∈ w.decided then .nothing else groupDecision s g w

/-- The districts of a list are launched one after the other. -/
def launchAll (s : State) (l : List DistrictNo) (w : Walk) : Walk :=
  l.foldl (fun w d => launchInWalk s d w) w

/-- The marks and counts of a decision that fails on some feeds. -/
def failAll (failure : FeedNo → Option FitFailure) (w : Walk) : Walk :=
  allFeeds.foldl (groupFailure failure) w

/-- The group of `d`, if it is in one that is synchronized, is decided. -/
def markDecided (s : State) (d : DistrictNo) (w : Walk) : Walk :=
  match syncGroup s (s.district d) with
  | none => w
  | some g => if g ∈ w.decided then w else { w with decided := g :: w.decided }

theorem failAll_none (w : Walk) : failAll (fun _ => none) w = w :=
  List.foldl_fixed' (fun _ => rfl) _

theorem failAll_single (f : FeedNo) (w : Walk) :
    failAll (fun f' => if f' = f then some .budget else none) w = budgetFailure f w := by
  have feeds : allFeeds = [0, 1, 2, 3] := rfl
  rw [failAll, feeds]
  fin_cases f <;> simp [groupFailure]

theorem decideAlone_eq : decideAlone s d w =
    failAll (aloneDecision s d w).failure (launchAll s (aloneDecision s d w).launches w) := by
  unfold decideAlone aloneDecision
  dsimp only
  by_cases blocked : w.work[(s.district d).config.feed.val].blocked = true
  · simp [blocked, Decision.nothing, launchAll, failAll_none]
  · by_cases full : (s.feed (s.district d).config.feed).launchWidth ≤
        w.work[(s.district d).config.feed.val].count
    · simp [full, Decision.nothing, launchAll, failAll_none]
    · by_cases fits : claimOf s d ≤ w.work[(s.district d).config.feed.val].free
      · simp [blocked, full, fits, claimAt_eq, launchAll, failAll_none]
      · simp [blocked, full, fits, claimAt_eq, launchAll, failAll_single]

theorem groupWaits_eq : allDistricts.any (makesWait s g) = groupWaits s g := by
  unfold groupWaits
  congr 1
  funext d
  simp only [makesWait, beq_eq_decide]

theorem decideGroup_eq : decideGroup s (walkOrder s) g w =
    failAll (groupDecision s g w).failure
      (launchAll s (groupDecision s g w).launches { w with decided := g :: w.decided }) := by
  have fit : ∀ members, groupFit s members { w with decided := g :: w.decided } =
      groupFit s members w := fun _ => rfl
  have all : (allFeeds.all fun f =>
      (groupFit s (groupMembers s g (walkOrder s)) w f).isNone) = true ↔
      ∀ f, groupFit s (groupMembers s g (walkOrder s)) w f = none := by
    simp [allFeeds]
  unfold decideGroup groupDecision
  simp only [groupWaits_eq, fit, all]
  split_ifs
  · simp [Decision.nothing, launchAll, failAll_none]
  · simp [launchAll, failAll_none]
  · rfl

theorem decisionOn_alone (own : onItsOwn s d = true) : decisionOn s w d = aloneDecision s d w := by
  simp [decisionOn, onItsOwn_iff.mp own]

theorem decisionOn_decided (sync : inSync s g d = true) (decided : g ∈ w.decided) :
    decisionOn s w d = .nothing := by
  simp [decisionOn, inSync_iff.mp sync, decided]

theorem decisionOn_fresh (sync : inSync s g d = true) (fresh : g ∉ w.decided) :
    decisionOn s w d = groupDecision s g w := by
  simp [decisionOn, inSync_iff.mp sync, fresh]

/-- A visit is its decision carried out. -/
theorem visit_eq : visit s (walkOrder s) w d =
    failAll (decisionOn s w d).failure (launchAll s (decisionOn s w d).launches (markDecided s d w)) := by
  unfold visit decisionOn markDecided
  rcases syncGroup s (s.district d) with _ | g
  · exact decideAlone_eq
  · by_cases h : g ∈ w.decided
    · simp [h, Decision.nothing, failAll_none, launchAll]
    · simp only [List.contains_eq_mem, h, decide_false, Bool.false_eq_true, ↓reduceIte]
      exact decideGroup_eq

/-! ### What launches and failures leave of the walk -/

theorem work_set (v : Vector FeedWork 4) (f f' : FeedNo) (x : FeedWork) :
    (v.set f.val x)[f'.val] = if f' = f then x else v[f'.val] := by
  rw [Vector.getElem_set]
  simp [Fin.ext_iff, eq_comm]

/-- What launching a list leaves of the walk, but for the state. -/
theorem launchAll_walk (l : List DistrictNo) (w : Walk) :
    (launchAll s l w).launched = w.launched ++ l ∧ (launchAll s l w).decided = w.decided ∧
    ∀ f : FeedNo, (launchAll s l w).work[f.val] =
      { free := w.work[f.val].free - claimsOn s f l
        count := w.work[f.val].count + (onFeed s f l).length
        blocked := w.work[f.val].blocked } := by
  induction l generalizing w with
  | nil => simp [launchAll]
  | cons d l ih =>
    obtain ⟨launched, decided, work⟩ := ih (launchInWalk s d w)
    refine ⟨by simpa [launchAll, launchInWalk] using launched, decided, fun f => ?_⟩
    refine (work f).trans ?_
    simp only [launchInWalk, work_set, claimAt_eq, onFeed_cons, claimsOn_cons]
    by_cases h : f = (s.district d).config.feed
    · subst h; simp; omega
    · simp [h, Ne.symm h]

/-- What the failures on a list of feeds leave of the walk, but for the state. -/
theorem foldl_groupFailure_walk (failure : FeedNo → Option FitFailure) (l : List FeedNo) (w : Walk) :
    (l.foldl (groupFailure failure) w).launched = w.launched ∧
    (l.foldl (groupFailure failure) w).decided = w.decided ∧
    ∀ f : FeedNo, (l.foldl (groupFailure failure) w).work[f.val] =
      { w.work[f.val] with
        blocked := w.work[f.val].blocked || decide (f ∈ l) && (failure f).isSome } := by
  induction l generalizing w with
  | nil => simp
  | cons a l ih =>
    obtain ⟨launched, decided, work⟩ := ih (groupFailure failure w a)
    have one : (groupFailure failure w a).launched = w.launched ∧
        (groupFailure failure w a).decided = w.decided ∧
        ∀ f : FeedNo, (groupFailure failure w a).work[f.val] =
          { w.work[f.val] with
            blocked := w.work[f.val].blocked || decide (f = a) && (failure a).isSome } := by
      unfold groupFailure
      split <;> rename_i h <;> refine ⟨rfl, rfl, fun f => ?_⟩ <;>
        simp only [budgetFailure, blockFeed, work_set, h] <;> by_cases hf : f = a <;> simp [hf]
    obtain ⟨launched₁, decided₁, work₁⟩ := one
    refine ⟨launched.trans launched₁, decided.trans decided₁, fun f => ?_⟩
    rw [List.foldl_cons, work f, work₁ f]
    by_cases hf : f = a
    · subst hf; cases (failure f).isSome <;> simp
    · simp [hf]

/-- What the failures of a decision leave of the walk, but for the state. -/
theorem failAll_walk (failure : FeedNo → Option FitFailure) (w : Walk) :
    (failAll failure w).launched = w.launched ∧ (failAll failure w).decided = w.decided ∧
    ∀ f : FeedNo, (failAll failure w).work[f.val] =
      { w.work[f.val] with blocked := w.work[f.val].blocked || (failure f).isSome } := by
  obtain ⟨launched, decided, work⟩ := foldl_groupFailure_walk failure allFeeds w
  exact ⟨launched, decided, fun f => by rw [failAll, work]; simp [allFeeds]⟩

theorem markDecided_walk : (markDecided s d w).launched = w.launched ∧
    (markDecided s d w).work = w.work ∧ (markDecided s d w).state = w.state := by
  unfold markDecided
  split
  · simp
  · split <;> simp

theorem mem_markDecided : g ∈ (markDecided s d w).decided ↔ g ∈ w.decided ∨ inSync s g d = true := by
  rw [inSync_iff]
  unfold markDecided
  rcases syncGroup s (s.district d) with _ | g'
  · simp
  · by_cases h : g' ∈ w.decided
    · simp only [h, ↓reduceIte, Option.some.injEq]
      exact ⟨.inl, fun h' => h'.elim id fun e => e ▸ h⟩
    · simp [h, or_comm, eq_comm]

/-! ### The places of the walk -/

/-- The walk as place `p` of the order is reached. -/
def walkTo (s : State) (p : Nat) : Walk :=
  ((walkOrder s).take p).foldl (visit s (walkOrder s)) (startWalk s)

/-- What is decided at place `p` of the walk. -/
def decisionAt (s : State) (p : Nat) : Decision :=
  match (walkOrder s)[p]? with
  | some d => decisionOn s (walkTo s p) d
  | none => .nothing

theorem walkTo_zero : walkTo s 0 = startWalk s := rfl

theorem walkTo_length : walkTo s (walkOrder s).length = walk s := by
  rw [walkTo, List.take_length]; rfl

theorem walkTo_succ (h : (walkOrder s)[p]? = some d) : walkTo s (p + 1) =
    failAll (decisionAt s p).failure
      (launchAll s (decisionAt s p).launches (markDecided s d (walkTo s p))) := by
  rw [decisionAt, h, ← visit_eq, walkTo, List.take_add_one, h, List.foldl_append]
  rfl

theorem walkTo_of_end (h : (walkOrder s)[p]? = none) : walkTo s (p + 1) = walkTo s p := by
  rw [walkTo, List.take_add_one, h, Option.toList_none, List.append_nil]
  rfl

/-- The districts launched, and the working values, from one place of the walk to the next. -/
theorem walkTo_succ_walk (s : State) (p : Nat) :
    (walkTo s (p + 1)).launched = (walkTo s p).launched ++ (decisionAt s p).launches ∧
    ∀ f : FeedNo, (walkTo s (p + 1)).work[f.val] =
      { free := (walkTo s p).work[f.val].free - claimsOn s f (decisionAt s p).launches
        count := (walkTo s p).work[f.val].count + (onFeed s f (decisionAt s p).launches).length
        blocked := (walkTo s p).work[f.val].blocked || ((decisionAt s p).failure f).isSome } := by
  rcases h : (walkOrder s)[p]? with _ | d
  · rw [walkTo_of_end h, decisionAt, h]
    simp [Decision.nothing]
  · rw [walkTo_succ h]
    obtain ⟨launched, work, _⟩ := markDecided_walk (s := s) (d := d) (w := walkTo s p)
    obtain ⟨launched₁, _, work₁⟩ :=
      launchAll_walk (s := s) (decisionAt s p).launches (markDecided s d (walkTo s p))
    obtain ⟨launched₂, _, work₂⟩ := failAll_walk (decisionAt s p).failure
      (launchAll s (decisionAt s p).launches (markDecided s d (walkTo s p)))
    refine ⟨by rw [launched₂, launched₁, launched], fun f => ?_⟩
    rw [work₂, work₁, work]

/-- The free budget and the count at a place follow from the launches before it (R90). -/
theorem walkTo_work (s : State) (p : Nat) (f : FeedNo) :
    (walkTo s p).work[f.val].free =
      (s.feed f).allowance - (s.feed f).heldSum - claimsOn s f (walkTo s p).launched ∧
    (walkTo s p).work[f.val].count = (onFeed s f (walkTo s p).launched).length := by
  induction p with
  | zero => simp [walkTo_zero, startWalk, freeBudget]
  | succ p ih =>
    obtain ⟨free, count⟩ := ih
    obtain ⟨launched, work⟩ := walkTo_succ_walk s p
    rw [work, launched, free, count]
    simp
    omega

/-- The groups decided before a place are those of the candidates before it (R97). -/
theorem mem_walkTo_decided (s : State) (p : Nat) (g : GroupNo) :
    g ∈ (walkTo s p).decided ↔ ∃ i < p, ∃ d, (walkOrder s)[i]? = some d ∧ inSync s g d = true := by
  induction p with
  | zero => simp [walkTo_zero, startWalk]
  | succ p ih =>
    have last : (∃ i < p + 1, ∃ d, (walkOrder s)[i]? = some d ∧ inSync s g d = true) ↔
        (∃ i < p, ∃ d, (walkOrder s)[i]? = some d ∧ inSync s g d = true) ∨
        ∃ d, (walkOrder s)[p]? = some d ∧ inSync s g d = true := by
      constructor
      · rintro ⟨i, hi, h⟩
        rcases Nat.lt_succ_iff_lt_or_eq.mp hi with hi | rfl
        · exact .inl ⟨i, hi, h⟩
        · exact .inr h
      · rintro (⟨i, hi, h⟩ | h)
        · exact ⟨i, by omega, h⟩
        · exact ⟨p, by omega, h⟩
    rw [last, ← ih]
    rcases h : (walkOrder s)[p]? with _ | d
    · simp [walkTo_of_end h]
    · rw [walkTo_succ h, (failAll_walk ..).2.1, (launchAll_walk ..).2.1, mem_markDecided]
      simp

/-! ### Turns -/

/-- `e` has its turn with `d`: it is `d`, or in the same synchronized group. -/
def sharesTurn (s : State) (d e : DistrictNo) : Prop :=
  e = d ∨ ∃ g, inSync s g d = true ∧ inSync s g e = true

theorem turn_eq_findIdx (s : State) (d : DistrictNo) [DecidablePred (sharesTurn s d)] :
    turn s d = (walkOrder s).findIdx fun e => decide (sharesTurn s d e) := by
  unfold turn
  congr 1
  funext e
  rw [Bool.eq_iff_iff, decide_eq_true_iff]
  simp [sharesTurn]

/-- A district of the order has its turn at the first place that shares it. -/
theorem turn_spec (h : d ∈ walkOrder s) : ∃ e, (walkOrder s)[turn s d]? = some e ∧ sharesTurn s d e ∧
    ∀ i < turn s d, ∀ e', (walkOrder s)[i]? = some e' → ¬ sharesTurn s d e' := by
  classical
  have found : turn s d < (walkOrder s).length := by
    rw [turn_eq_findIdx]
    exact List.findIdx_lt_length_of_exists ⟨d, h, decide_eq_true (.inl rfl)⟩
  refine ⟨(walkOrder s)[turn s d], List.getElem?_eq_getElem found, ?_, fun i hi e' he' => ?_⟩
  · have := List.findIdx_getElem (xs := walkOrder s) (p := fun e => decide (sharesTurn s d e))
      (w := by rw [← turn_eq_findIdx]; exact found)
    simpa [← turn_eq_findIdx] using this
  · have hlt : i < (walkOrder s).findIdx fun e => decide (sharesTurn s d e) := by
      rwa [← turn_eq_findIdx]
    have := List.not_of_lt_findIdx hlt
    obtain ⟨_, rfl⟩ := List.getElem?_eq_some_iff.mp he'
    simpa using this

theorem turn_lt_length (h : d ∈ walkOrder s) : turn s d < (walkOrder s).length := by
  obtain ⟨_, he, _⟩ := turn_spec h
  exact (List.getElem?_eq_some_iff.mp he).1

/-- The turn of a district is the one place that shares it with none before. -/
theorem turn_eq_of (he : (walkOrder s)[p]? = some e) (shares : sharesTurn s d e)
    (first : ∀ i < p, ∀ e', (walkOrder s)[i]? = some e' → ¬ sharesTurn s d e') : turn s d = p := by
  classical
  obtain ⟨hp, rfl⟩ := List.getElem?_eq_some_iff.mp he
  rw [turn_eq_findIdx, List.findIdx_eq hp]
  exact ⟨decide_eq_true shares, fun j hj =>
    decide_eq_false (first j hj _ (List.getElem?_eq_getElem (by omega)))⟩

/-- No place of the order holds a district twice. -/
theorem walkOrder_place_unique {i j : Nat} (hi : (walkOrder s)[i]? = some d)
    (hj : (walkOrder s)[j]? = some d) : i = j := by
  obtain ⟨hi', rfl⟩ := List.getElem?_eq_some_iff.mp hi
  obtain ⟨hj', h⟩ := List.getElem?_eq_some_iff.mp hj
  exact ((walkOrder_nodup s).getElem_inj_iff.mp h).symm

/-- A district on its own shares its turn with no other. -/
theorem sharesTurn_alone (h : onItsOwn s d = true) : sharesTurn s d e ↔ e = d := by
  rw [onItsOwn_iff] at h
  simp [sharesTurn, inSync_iff, h]

/-- A member of a synchronized group shares its turn with the group. -/
theorem sharesTurn_sync (h : inSync s g d = true) : sharesTurn s d e ↔ inSync s g e = true := by
  rw [inSync_iff] at h
  simp only [sharesTurn, inSync_iff, h, Option.some.injEq, exists_eq_left']
  exact ⟨fun o => o.elim (fun e => e ▸ h) id, .inr⟩

/-- At the turn of a candidate on its own it is decided on its own (R92). -/
theorem decisionAt_alone (h : d ∈ walkOrder s) (own : onItsOwn s d = true) :
    decisionAt s (turn s d) = aloneDecision s d (walkTo s (turn s d)) := by
  obtain ⟨e, he, shares, _⟩ := turn_spec h
  obtain rfl := (sharesTurn_alone own).mp shares
  rw [decisionAt, he]
  exact decisionOn_alone own

/-- At the turn of a member of a synchronized group the group is decided (R94). -/
theorem decisionAt_sync (h : d ∈ walkOrder s) (sync : inSync s g d = true) :
    decisionAt s (turn s d) = groupDecision s g (walkTo s (turn s d)) := by
  obtain ⟨e, he, shares, first⟩ := turn_spec h
  have inGroup := (sharesTurn_sync sync).mp shares
  have fresh : g ∉ (walkTo s (turn s d)).decided := by
    rw [mem_walkTo_decided]
    rintro ⟨i, hi, e', he', h'⟩
    exact first i hi e' he' ((sharesTurn_sync sync).mpr h')
  rw [decisionAt, he]
  exact decisionOn_fresh inGroup fresh

/-- At a place that is not its candidate's turn nothing is decided (R97). -/
theorem decisionAt_not_turn (he : (walkOrder s)[p]? = some e) (other : turn s e ≠ p) :
    decisionAt s p = .nothing := by
  rcases hg : syncGroup s (s.district e) with _ | g
  · refine absurd (turn_eq_of he (.inl rfl) fun i hi e' he' => ?_) other
    rw [sharesTurn_alone (onItsOwn_iff.mpr hg)]
    rintro rfl
    exact hi.ne (walkOrder_place_unique he' he)
  · have sync := inSync_iff.mpr hg
    have decided : g ∈ (walkTo s p).decided := by
      by_contra fresh
      rw [mem_walkTo_decided] at fresh
      refine other (turn_eq_of he (.inl rfl) fun i hi e' he' shares => fresh ?_)
      exact ⟨i, hi, e', he', (sharesTurn_sync sync).mp shares⟩
    rw [decisionAt, he]
    exact decisionOn_decided sync decided

/-- Two districts that share a turn have the same one. -/
theorem turn_congr (hd : d ∈ walkOrder s) (shares : sharesTurn s d e) : turn s e = turn s d := by
  rcases shares with rfl | ⟨g, hd', he'⟩
  · rfl
  · obtain ⟨c, hc, sharesC, first⟩ := turn_spec hd
    have same : ∀ e', sharesTurn s e e' ↔ sharesTurn s d e' := fun e' => by
      rw [sharesTurn_sync he', sharesTurn_sync hd']
    exact turn_eq_of hc ((same c).mpr sharesC) fun i hi e' h => (same e').not.mpr (first i hi e' h)

/-! ### What a decision says -/

/-- At each place nothing is decided, or the candidate that has its turn there on its own, or its group. -/
theorem decisionAt_cases (s : State) (p : Nat) : decisionAt s p = .nothing ∨
    (∃ d ∈ walkOrder s, turn s d = p ∧ onItsOwn s d = true ∧
      decisionAt s p = aloneDecision s d (walkTo s p)) ∨
    ∃ d ∈ walkOrder s, ∃ g, turn s d = p ∧ inSync s g d = true ∧
      decisionAt s p = groupDecision s g (walkTo s p) := by
  rcases hp : (walkOrder s)[p]? with _ | d
  · exact .inl (by rw [decisionAt, hp])
  · have hd := List.mem_of_getElem? hp
    by_cases ht : turn s d = p
    · rcases hg : syncGroup s (s.district d) with _ | g
      · have own := onItsOwn_iff.mpr hg
        exact .inr (.inl ⟨d, hd, ht, own, ht ▸ decisionAt_alone hd own⟩)
      · have sync := inSync_iff.mpr hg
        exact .inr (.inr ⟨d, hd, g, ht, sync, ht ▸ decisionAt_sync hd sync⟩)
    · exact .inl (decisionAt_not_turn hp ht)

/-- A candidate on its own is launched where its feed is not blocked, has width left and has the budget
(R92). -/
theorem mem_aloneDecision : e ∈ (aloneDecision s d w).launches ↔
    e = d ∧ w.work[(s.district d).config.feed.val].blocked = false ∧
    w.work[(s.district d).config.feed.val].count < (s.feed (s.district d).config.feed).launchWidth ∧
    claimOf s d ≤ w.work[(s.district d).config.feed.val].free := by
  unfold aloneDecision
  dsimp only
  split_ifs with h₁ h₂
  · simp only [Decision.nothing, List.not_mem_nil, false_iff]
    rintro ⟨_, notBlocked, width, _⟩
    exact h₁.elim (by simp [notBlocked]) (not_le.mpr width)
  · rw [not_or, not_le, Bool.not_eq_true] at h₁
    simp [h₁, h₂]
  · simp [h₂]

/-- It fails its feed for the budget where only that is missing (R92, R93). -/
theorem aloneDecision_failure : (aloneDecision s d w).failure f =
    if f = (s.district d).config.feed ∧ w.work[f.val].blocked = false ∧
      w.work[f.val].count < (s.feed f).launchWidth ∧ w.work[f.val].free < claimOf s d
    then some .budget else none := by
  by_cases hf : f = (s.district d).config.feed
  · subst hf
    unfold aloneDecision
    dsimp only
    split_ifs <;> simp_all [Decision.nothing] <;> omega
  · unfold aloneDecision
    dsimp only
    split_ifs <;> simp_all [Decision.nothing]

/-- The members of a group that are candidates on a feed. -/
theorem groupMembers_onFeed : (groupMembers s g (walkOrder s)).filter
    (fun d => (s.district d).config.feed == f) = membersOn s g f := by
  rw [groupMembers, membersOn, List.filter_filter]
  refine List.filter_congr fun d _ => ?_
  rw [Bool.eq_iff_iff]
  simp [and_comm]

/-- What R95 asks of a feed that has members of the group. -/
theorem groupFit_eq : groupFit s (groupMembers s g (walkOrder s)) w f =
    if membersOn s g f = [] then none
    else if w.work[f.val].blocked = true then some .blocked
    else if (s.feed f).launchWidth < w.work[f.val].count + (membersOn s g f).length then some .width
    else if w.work[f.val].free < ((membersOn s g f).map (claimOf s)).sum then some .budget
    else none := by
  unfold groupFit
  simp only [groupMembers_onFeed, List.isEmpty_iff]
  rfl

theorem groupFit_eq_none : groupFit s (groupMembers s g (walkOrder s)) w f = none ↔
    membersOn s g f = [] ∨ w.work[f.val].blocked = false ∧
      w.work[f.val].count + (membersOn s g f).length ≤ (s.feed f).launchWidth ∧
      ((membersOn s g f).map (claimOf s)).sum ≤ w.work[f.val].free := by
  rw [groupFit_eq]
  split_ifs <;> simp_all

theorem groupFit_eq_budget : groupFit s (groupMembers s g (walkOrder s)) w f = some .budget ↔
    membersOn s g f ≠ [] ∧ w.work[f.val].blocked = false ∧
      w.work[f.val].count + (membersOn s g f).length ≤ (s.feed f).launchWidth ∧
      w.work[f.val].free < ((membersOn s g f).map (claimOf s)).sum := by
  rw [groupFit_eq]
  split_ifs <;> simp_all

/-- A group launches its members where it does not wait and fits every feed (R94, R95). -/
theorem mem_groupDecision : e ∈ (groupDecision s g w).launches ↔
    e ∈ groupMembers s g (walkOrder s) ∧ groupWaits s g = false ∧
    ∀ f, groupFit s (groupMembers s g (walkOrder s)) w f = none := by
  unfold groupDecision
  split_ifs with h₁ h₂
  · simp [Decision.nothing, h₁]
  · simp [h₁, h₂]
  · simp [h₂]

/-- It fails on the feeds it does not fit where it does not wait (R96). -/
theorem groupDecision_failure : (groupDecision s g w).failure f =
    if groupWaits s g = true then none else groupFit s (groupMembers s g (walkOrder s)) w f := by
  unfold groupDecision
  split_ifs with h₁ h₂
  · rfl
  · exact (h₂ f).symm
  · rfl

theorem mem_groupMembers : e ∈ groupMembers s g (walkOrder s) ↔
    e ∈ walkOrder s ∧ (s.district e).config.group = some g := by
  simp [groupMembers]

theorem inSync_of_group (sync : inSync s g d = true) :
    inSync s g e = true ↔ (s.district e).config.group = some g := by
  have mode : s.groupMode g = .synchronized := by
    simp only [inSync, decide_eq_true_eq] at sync; exact sync.2
  simp [inSync, mode]

/-- A district is launched at its turn or not at all. -/
theorem mem_launches (h : e ∈ (decisionAt s p).launches) : e ∈ walkOrder s ∧ turn s e = p := by
  rcases decisionAt_cases s p with none | ⟨d, hd, ht, own, alone⟩ | ⟨d, hd, g, ht, sync, group⟩
  · rw [none] at h; cases h
  · rw [alone, mem_aloneDecision] at h
    exact h.1 ▸ ⟨hd, ht⟩
  · rw [group, mem_groupDecision, mem_groupMembers] at h
    obtain ⟨⟨he, hg⟩, _⟩ := h
    exact ⟨he, (turn_congr hd (.inr ⟨g, sync, (inSync_of_group sync).mpr hg⟩)).trans ht⟩

theorem launches_nodup (s : State) (p : Nat) : (decisionAt s p).launches.Nodup := by
  rcases decisionAt_cases s p with none | ⟨d, _, _, _, alone⟩ | ⟨d, _, g, _, _, group⟩
  · rw [none]; exact List.nodup_nil
  · rw [alone, aloneDecision]
    split_ifs <;> simp [Decision.nothing]
  · rw [group, groupDecision]
    split_ifs
    · exact List.nodup_nil
    · exact (walkOrder_nodup s).filter _
    · exact List.nodup_nil

/-- A district is launched before place `p` where its turn is before and its decision launches it. -/
theorem mem_walkTo_launched (s : State) (p : Nat) (d : DistrictNo) : d ∈ (walkTo s p).launched ↔
    turn s d < p ∧ d ∈ (decisionAt s (turn s d)).launches := by
  induction p with
  | zero => simp [walkTo_zero, startWalk]
  | succ p ih =>
    rw [(walkTo_succ_walk s p).1, List.mem_append, ih]
    constructor
    · rintro (⟨hp, hd⟩ | hd)
      · exact ⟨by omega, hd⟩
      · obtain ⟨_, rfl⟩ := mem_launches hd
        exact ⟨by omega, hd⟩
    · rintro ⟨hp, hd⟩
      rcases Nat.lt_succ_iff_lt_or_eq.mp hp with hp | hp
      · exact .inl ⟨hp, hd⟩
      · exact .inr (hp ▸ hd)

/-- No district is launched twice. -/
theorem walkTo_launched_nodup (s : State) (p : Nat) : (walkTo s p).launched.Nodup := by
  induction p with
  | zero => simp [walkTo_zero, startWalk]
  | succ p ih =>
    rw [(walkTo_succ_walk s p).1]
    refine ih.append (launches_nodup s p) fun d before now => ?_
    have := ((mem_walkTo_launched s p d).mp before).1
    have := (mem_launches now).2
    omega

end Sys2Proof.Machine
end

section
/-! What a beat leaves (R87 to R99): the state at a place of the walk in terms of the launches and the budget
failures decided before it, and the statements on a beat read off the decisions. -/

namespace Sys2Proof.Machine

variable {s t : State} {d e : DistrictNo} {f : FeedNo} {g : GroupNo} {w : Walk} {p : Nat}

/-! ### What launches and budget failures leave of the state -/

/-- `t` is `s` after the districts of `l` were launched, the feeds of `b` failed the budget once each, and the
notices `made` were handed. -/
structure BeatLeaves (s : State) (l : List DistrictNo) (b : List FeedNo) (made : List Notice) (t : State) :
    Prop where
  district : ∀ d, t.district d =
    if d ∈ l then launchRecord (claimOf s d) (s.district d) else s.district d
  feed : ∀ f, t.feed f = { s.feed f with heldSum := (s.feed f).heldSum + claimsOn s f l }
  counter : ∀ i, t.counter i =
    if (∃ d ∈ l, i = districtCounter d .launches) ∨ ∃ f ∈ b, i = feedCounter f .budgetWaits then
      (countUp s.bank.mode (s.counter i)).1
    else s.counter i
  mode : t.bank.mode = s.bank.mode
  noticeEnable : t.bank.noticeEnable = s.bank.noticeEnable
  notices : t.notices = handAll made s.notices
  rotation : t.rotation = s.rotation
  keeps : BeatKeeps s t

theorem BeatLeaves.start (s : State) : BeatLeaves s [] [] [] s where
  district _ := by simp
  feed _ := by simp
  counter _ := by simp
  mode := rfl
  noticeEnable := rfl
  notices := rfl
  rotation := rfl
  keeps := .refl s

theorem districtCounter_inj {k k' : DistrictCounter} :
    districtCounter d k = districtCounter e k' ↔ d = e ∧ k = k' := by
  constructor
  · intro h
    have := congrArg Fin.val h
    cases k <;> cases k' <;> simp_all [districtCounter, districtKindNumber, Fin.ext_iff] <;> omega
  · rintro ⟨rfl, rfl⟩; rfl

theorem feedCounter_inj {f f' : FeedNo} {k k' : FeedCounter} :
    feedCounter f k = feedCounter f' k' ↔ f = f' ∧ k = k' := by
  constructor
  · intro h
    have := congrArg Fin.val h
    cases k <;> cases k' <;> simp_all [feedCounter, feedKindNumber, Fin.ext_iff] <;> omega
  · rintro ⟨rfl, rfl⟩; rfl

theorem districtCounter_ne_feedCounter (k : DistrictCounter) (k' : FeedCounter) :
    districtCounter d k ≠ feedCounter f k' := by
  intro h
  have := congrArg Fin.val h
  cases k <;> cases k' <;> simp [districtCounter, districtKindNumber, feedCounter, feedKindNumber] at this <;>
    omega

/-- The notices of an increment do not change while its counter has not moved. -/
theorem countNotices_congr {i : CounterIx} (hc : t.counter i = s.counter i)
    (hm : t.bank.mode = s.bank.mode) (he : t.bank.noticeEnable = s.bank.noticeEnable) :
    countNotices t i = countNotices s i := by
  simp only [countNotices, hc, hm, he]

@[simp] theorem countNotices_setFeed (x : Feed) (i : CounterIx) :
    countNotices (s.setFeed f x) i = countNotices s i := rfl

@[simp] theorem countNotices_setDistrict (x : District) (i : CounterIx) :
    countNotices (s.setDistrict d x) i = countNotices s i := rfl

/-- A launch of a district not launched before (R46). -/
theorem BeatLeaves.launch {l : List DistrictNo} {b : List FeedNo} {made : List Notice}
    (h : BeatLeaves s l b made t) (new : d ∉ l) :
    BeatLeaves s (l ++ [d]) b (made ++ launchNotices s d) (launchDistrict d (claimOf s d) t) := by
  have old : t.district d = s.district d := by rw [h.district, if_neg new]
  have fresh : t.counter (districtCounter d .launches) = s.counter (districtCounter d .launches) := by
    rw [h.counter, if_neg]
    rintro (⟨e, he, hde⟩ | ⟨f, _, hf⟩)
    · exact new ((districtCounter_inj.mp hde).1 ▸ he)
    · exact districtCounter_ne_feedCounter _ _ hf
  have keeps := launchDistrict_keeps t d (claimOf s d)
  refine { district := fun e => ?_, feed := fun f => ?_, counter := fun i => ?_, mode := ?_,
           noticeEnable := ?_, notices := ?_, rotation := ?_, keeps := h.keeps.trans keeps }
  · rw [launchDistrict_district]
    by_cases he : e = d
    · subst he; simp [old]
    · simp [he, h.district]
  · rw [launchDistrict_feed, old, h.feed]
    by_cases hf : f = (s.district d).config.feed
    · subst hf; simp; omega
    · simp [hf, Ne.symm hf]
  · have moved : (launchDistrict d (claimOf s d) t).counter i =
        if i = districtCounter d .launches then
          (countUp s.bank.mode (s.counter (districtCounter d .launches))).1 else t.counter i := by
      simp [launchDistrict, h.mode, fresh]
    rw [moved, h.counter]
    by_cases hi : i = districtCounter d .launches
    · simp [hi]
    · simp [hi]
  · simp [launchDistrict, h.mode]
  · simp [launchDistrict, h.noticeEnable]
  · have handed : (launchDistrict d (claimOf s d) t).notices =
        handAll (launchNotices s d) t.notices := by
      simp only [launchDistrict, makeNotice_notices, increment_notices, old, State.setDistrict_notices,
        State.setFeed_notices, launchNotices, handAll_append, countNotices_setDistrict,
        countNotices_setFeed, countNotices_congr fresh h.mode h.noticeEnable]
      rfl
    rw [handed, h.notices, ← handAll_append]
  · simp [launchDistrict, h.rotation]

/-- A budget failure of a feed that has not failed before (R93). -/
theorem BeatLeaves.fail {l : List DistrictNo} {b : List FeedNo} {made : List Notice}
    (h : BeatLeaves s l b made t) (new : f ∉ b) :
    BeatLeaves s l (b ++ [f]) (made ++ countNotices s (feedCounter f .budgetWaits))
      (increment (feedCounter f .budgetWaits) t) := by
  have fresh : t.counter (feedCounter f .budgetWaits) = s.counter (feedCounter f .budgetWaits) := by
    rw [h.counter, if_neg]
    rintro (⟨e, _, he⟩ | ⟨f', hf', hff⟩)
    · exact districtCounter_ne_feedCounter _ _ he.symm
    · exact new ((feedCounter_inj.mp hff).1 ▸ hf')
  refine { district := fun e => ?_, feed := fun f => ?_, counter := fun i => ?_, mode := ?_,
           noticeEnable := ?_, notices := ?_, rotation := ?_,
           keeps := h.keeps.trans (increment_keeps t _) }
  · rw [increment_district, h.district]
  · rw [increment_feed, h.feed]
  · rw [increment_counter, fresh, h.mode, h.counter]
    by_cases hi : i = feedCounter f .budgetWaits
    · simp [hi]
    · simp [hi]
  · rw [increment_mode, h.mode]
  · rw [increment_noticeEnable, h.noticeEnable]
  · rw [increment_notices, countNotices_congr fresh h.mode h.noticeEnable, h.notices, handAll_append]
  · rw [increment_rotation, h.rotation]

/-- The launches of a list of different districts, none launched before. -/
theorem BeatLeaves.launchAll {l : List DistrictNo} {b : List FeedNo} {made : List Notice}
    {m : List DistrictNo} (h : BeatLeaves s l b made w.state) (nodup : (l ++ m).Nodup) :
    BeatLeaves s (l ++ m) b (made ++ m.flatMap (launchNotices s)) (launchAll s m w).state := by
  induction m generalizing l made w with
  | nil => simpa [Machine.launchAll] using h
  | cons d m ih =>
    have new : d ∉ l := fun hd => (List.nodup_append.mp nodup).2.2 d hd d (by simp) rfl
    have first : BeatLeaves s (l ++ [d]) b (made ++ launchNotices s d) (launchInWalk s d w).state :=
      h.launch new
    have := ih first (by simpa using nodup)
    simpa [Machine.launchAll] using this

/-- The budget failures of a list of different feeds, none failed before. -/
theorem BeatLeaves.failures {l : List DistrictNo} {b : List FeedNo} {made : List Notice}
    {failure : FeedNo → Option FitFailure} {feeds : List FeedNo} (h : BeatLeaves s l b made w.state)
    (nodup : feeds.Nodup) (new : ∀ f ∈ feeds, failure f = some .budget → f ∉ b) :
    BeatLeaves s l (b ++ feeds.filter fun f => decide (failure f = some .budget))
      (made ++ (feeds.filter fun f => decide (failure f = some .budget)).flatMap
        fun f => countNotices s (feedCounter f .budgetWaits))
      (feeds.foldl (groupFailure failure) w).state := by
  induction feeds generalizing b made w with
  | nil => simpa using h
  | cons f feeds ih =>
    obtain ⟨notLater, nodup⟩ := List.nodup_cons.mp nodup
    by_cases hf : failure f = some .budget
    · have one : (groupFailure failure w f).state =
          increment (feedCounter f .budgetWaits) w.state := by
        simp [groupFailure, hf, budgetFailure, blockFeed]
      have first := h.fail (new f (by simp) hf)
      rw [← one] at first
      have := ih first nodup fun f' hf' fails => by
        simp only [List.mem_append, List.mem_singleton, not_or]
        exact ⟨new f' (by simp [hf']) fails, fun e => notLater (e ▸ hf')⟩
      simpa [hf] using this
    · have one : (groupFailure failure w f).state = w.state := by
        unfold groupFailure
        split
        · rfl
        · contradiction
        · rfl
        · rfl
      have := ih (w := groupFailure failure w f) (one ▸ h) nodup fun f' hf' => new f' (by simp [hf'])
      simpa [hf] using this

/-! ### The state at a place of the walk -/

/-- The feeds on which the decision at place `p` fails the budget. -/
def budgetFails (s : State) (p : Nat) : List FeedNo :=
  allFeeds.filter fun f => decide ((decisionAt s p).failure f = some .budget)

/-- The notices of the decision at place `p`. -/
def noticesAt (s : State) (p : Nat) : List Notice :=
  (decisionAt s p).launches.flatMap (launchNotices s)
    ++ (budgetFails s p).flatMap fun f => countNotices s (feedCounter f .budgetWaits)

theorem mem_budgetFails : f ∈ budgetFails s p ↔ (decisionAt s p).failure f = some .budget := by
  simp [budgetFails, allFeeds]

/-- Where a decision fails a feed for its budget, that feed was not blocked. -/
theorem not_blocked_of_budget (h : (decisionAt s p).failure f = some .budget) :
    (walkTo s p).work[f.val].blocked = false := by
  rcases decisionAt_cases s p with none | ⟨d, _, _, _, alone⟩ | ⟨d, _, g, _, _, group⟩
  · rw [none] at h; cases h
  · rw [alone, aloneDecision_failure] at h
    split at h
    · next fails => exact fails.2.1
    · cases h
  · rw [group, groupDecision_failure] at h
    split at h
    · cases h
    · exact (groupFit_eq_budget.mp h).2.1

/-- A mark that is set stays set (R93). -/
theorem blocked_mono {q : Nat} (le : p ≤ q) (h : (walkTo s p).work[f.val].blocked = true) :
    (walkTo s q).work[f.val].blocked = true := by
  induction q, le using Nat.le_induction with
  | base => exact h
  | succ q _ ih => rw [(walkTo_succ_walk s q).2 f, ih h, Bool.true_or]

/-- A decision that fails on a feed leaves it blocked (R93, R96). -/
theorem blocked_of_failure (h : ((decisionAt s p).failure f).isSome = true) :
    (walkTo s (p + 1)).work[f.val].blocked = true := by
  rw [(walkTo_succ_walk s p).2 f, h, Bool.or_true]

/-- The state at a place of the walk. -/
theorem walkTo_state (s : State) (p : Nat) :
    BeatLeaves s (walkTo s p).launched ((List.range p).flatMap (budgetFails s))
      ((List.range p).flatMap (noticesAt s)) (walkTo s p).state := by
  induction p with
  | zero => exact .start s
  | succ p ih =>
    have launched := (walkTo_succ_walk s p).1
    have nodup := launched ▸ walkTo_launched_nodup s (p + 1)
    rw [List.range_succ, List.flatMap_append, List.flatMap_append, List.flatMap_singleton,
      List.flatMap_singleton]
    rcases hp : (walkOrder s)[p]? with _ | d
    · have none : decisionAt s p = .nothing := by rw [decisionAt, hp]
      have fails : budgetFails s p = [] := by simp [budgetFails, none, Decision.nothing]
      have made : noticesAt s p = [] := by simp [noticesAt, fails, none, Decision.nothing]
      rw [fails, made, List.append_nil, List.append_nil, walkTo_of_end hp]
      exact ih
    · have start : BeatLeaves s (walkTo s p).launched ((List.range p).flatMap (budgetFails s))
          ((List.range p).flatMap (noticesAt s)) (markDecided s d (walkTo s p)).state := by
        rw [markDecided_walk.2.2]; exact ih
      have new : ∀ f ∈ allFeeds, (decisionAt s p).failure f = some .budget →
          f ∉ (List.range p).flatMap (budgetFails s) := by
        intro f _ fails before
        obtain ⟨i, hi, hf⟩ := List.mem_flatMap.mp before
        have blocked := blocked_of_failure (s := s) (p := i) (f := f) (by rw [mem_budgetFails.mp hf]; rfl)
        have later := blocked_mono (q := p) (by simpa using hi) blocked
        rw [not_blocked_of_budget fails] at later
        cases later
      have done := (start.launchAll nodup).failures (List.nodup_finRange 4) new
      rw [launched, walkTo_succ hp, noticesAt, ← List.append_assoc]
      exact done

/-! ### The launches -/

theorem takeBeat_eq (s : State) : ∃ r, takeBeat s = { (walk s).state with rotation := r } ∧
    r = ((walkOrder s).filter (walk s).launched.contains).getLast?.getD (walk s).state.rotation := by
  unfold takeBeat
  dsimp only
  split
  · next h => exact ⟨_, rfl, by rw [h]; rfl⟩
  · next h => exact ⟨_, rfl, by rw [h]; rfl⟩

/-- The whole walk. -/
theorem walk_state (s : State) : BeatLeaves s (walk s).launched
    ((List.range (walkOrder s).length).flatMap (budgetFails s))
    ((List.range (walkOrder s).length).flatMap (noticesAt s)) (walk s).state :=
  walkTo_length (s := s) ▸ walkTo_state s _

theorem mem_walk_launched : d ∈ (walk s).launched ↔ d ∈ (decisionAt s (turn s d)).launches := by
  rw [← walkTo_length, mem_walkTo_launched]
  exact and_iff_right_of_imp fun h => turn_lt_length (mem_launches h).1

theorem takeBeat_district (s : State) (d : DistrictNo) :
    (takeBeat s).district d = (walk s).state.district d := by
  obtain ⟨r, h, _⟩ := takeBeat_eq s
  rw [h]; rfl

/-- A district is launched at a beat where the decision at its turn launches it. -/
theorem launchedAt_iff : launchedAt s d = true ↔ d ∈ (decisionAt s (turn s d)).launches := by
  rw [← mem_walk_launched, launchedAt, decide_eq_true_eq, takeBeat_district, (walk_state s).district]
  by_cases h : d ∈ (walk s).launched
  · have candidate := candidate_of_mem_walkOrder (mem_launches (mem_walk_launched.mp h)).1
    simp [h, ready_of_candidate candidate, launchRecord]
  · simp only [h, ↓reduceIte, iff_false, not_and]
    intro ready
    simp [ready]

theorem launchedAt_iff_walk : launchedAt s d = true ↔ d ∈ (walk s).launched := by
  rw [launchedAt_iff, mem_walk_launched]

theorem mem_walkOrder_of_launchedAt (h : launchedAt s d = true) : d ∈ walkOrder s :=
  (mem_launches (launchedAt_iff.mp h)).1

/-! ### The values that the statements name -/

theorem mem_walkTo_launched_iff : d ∈ (walkTo s p).launched ↔ launchedAt s d = true ∧ turn s d < p := by
  rw [mem_walkTo_launched, launchedAt_iff, and_comm]

theorem launchedBefore_perm (s : State) (p : Nat) (f : FeedNo) :
    (launchedBefore s p f).Perm (onFeed s f (walkTo s p).launched) := by
  refine (List.perm_ext_iff_of_nodup ((walkOrder_nodup s).filter _)
    ((walkTo_launched_nodup s p).filter _)).mpr fun d => ?_
  simp only [List.mem_filter, Bool.and_eq_true, decide_eq_true_eq, mem_walkTo_launched_iff]
  constructor
  · rintro ⟨_, ⟨h, hf⟩, ht⟩; exact ⟨⟨h, ht⟩, hf⟩
  · rintro ⟨⟨h, ht⟩, hf⟩; exact ⟨mem_walkOrder_of_launchedAt h, ⟨h, hf⟩, ht⟩

theorem count_eq (s : State) (p : Nat) (f : FeedNo) :
    (walkTo s p).work[f.val].count = countBefore s p f := by
  rw [(walkTo_work s p f).2, countBefore, (launchedBefore_perm s p f).length_eq]

theorem free_eq (s : State) (p : Nat) (f : FeedNo) :
    (walkTo s p).work[f.val].free = freeBefore s p f := by
  rw [(walkTo_work s p f).1, freeBefore, ((launchedBefore_perm s p f).map _).sum_eq]
  rfl

/-- A decision fails on a feed that is not blocked where the statement's terms say that it blocks it. -/
def blocksAt (s : State) (d : DistrictNo) (f : FeedNo) : Prop :=
  launchedAt s d = false ∧
    (onItsOwn s d = true ∧ (s.district d).config.feed = f ∧
        countBefore s (turn s d) f < (s.feed f).launchWidth ∨
      ∃ g, inSync s g d = true ∧ groupWaits s g = false ∧ membersOn s g f ≠ [] ∧
        ¬ (groupWidthOk s (turn s d) g f = true ∧ groupBudgetOk s (turn s d) g f = true))

theorem blockedBefore_iff : blockedBefore s p f = true ↔
    ∃ d ∈ walkOrder s, turn s d < p ∧ blocksAt s d f := by
  simp [blockedBefore, blocksAt, and_assoc, imp_iff_not_or]

theorem groupWidthOk_iff : groupWidthOk s p g f = true ↔
    (walkTo s p).work[f.val].count + (membersOn s g f).length ≤ (s.feed f).launchWidth := by
  rw [groupWidthOk, decide_eq_true_eq, count_eq]

theorem groupBudgetOk_iff : groupBudgetOk s p g f = true ↔
    ((membersOn s g f).map (claimOf s)).sum ≤ (walkTo s p).work[f.val].free := by
  rw [groupBudgetOk, decide_eq_true_eq, free_eq]

/-- On a feed not blocked yet, the candidates that have their turn at a place block it just where the decision
there fails on it. -/
theorem blocksAt_iff_failure (free : (walkTo s p).work[f.val].blocked = false) :
    (∃ d ∈ walkOrder s, turn s d = p ∧ blocksAt s d f) ↔ ((decisionAt s p).failure f).isSome = true := by
  constructor
  · rintro ⟨d, hd, rfl, notLaunched, ⟨own, rfl, width⟩ | ⟨g, sync, waits, members, fails⟩⟩
    · rw [← Bool.not_eq_true, launchedAt_iff, decisionAt_alone hd own, mem_aloneDecision] at notLaunched
      rw [← count_eq] at width
      rw [decisionAt_alone hd own, aloneDecision_failure, if_pos]
      · rfl
      · exact ⟨rfl, free, width, not_le.mp fun fits => notLaunched ⟨rfl, free, width, fits⟩⟩
    · rw [decisionAt_sync hd sync, groupDecision_failure, waits, if_neg (by simp),
        ← Option.ne_none_iff_isSome, Ne, groupFit_eq_none]
      rw [groupWidthOk_iff, groupBudgetOk_iff] at fails
      tauto
  · intro fails
    rcases decisionAt_cases s p with none | ⟨d, hd, ht, own, alone⟩ | ⟨d, hd, g, ht, sync, group⟩
    · rw [none] at fails; cases fails
    · rw [alone, aloneDecision_failure] at fails
      split at fails
      · next h =>
        obtain ⟨rfl, _, width, budget⟩ := h
        refine ⟨d, hd, ht, ?_, .inl ⟨own, rfl, by rw [ht, ← count_eq]; exact width⟩⟩
        rw [← Bool.not_eq_true, launchedAt_iff, ht, alone, mem_aloneDecision]
        rintro ⟨_, _, _, fits⟩
        exact absurd fits (not_le.mpr budget)
      · cases fails
    · rw [group, groupDecision_failure] at fails
      split at fails
      · cases fails
      · next waits =>
        rw [← Option.ne_none_iff_isSome] at fails
        have notFit := fails
        rw [Ne, groupFit_eq_none, not_or] at notFit
        refine ⟨d, hd, ht, ?_, .inr ⟨g, sync, by simpa using waits, notFit.1, ?_⟩⟩
        · rw [← Bool.not_eq_true, launchedAt_iff, ht, group, mem_groupDecision]
          exact fun h => fails (h.2.2 f)
        · rw [ht, groupWidthOk_iff, groupBudgetOk_iff]
          exact fun h => notFit.2 ⟨free, h⟩

/-- The blocked mark of a feed, as the statements name it. -/
theorem blocked_eq (s : State) (p : Nat) (f : FeedNo) :
    (walkTo s p).work[f.val].blocked = blockedBefore s p f := by
  rw [Bool.eq_iff_iff, blockedBefore_iff]
  induction p with
  | zero => simp [walkTo_zero, startWalk]
  | succ p ih =>
    have split : (∃ d ∈ walkOrder s, turn s d < p + 1 ∧ blocksAt s d f) ↔
        (∃ d ∈ walkOrder s, turn s d < p ∧ blocksAt s d f) ∨
        ∃ d ∈ walkOrder s, turn s d = p ∧ blocksAt s d f := by
      simp only [Nat.lt_succ_iff_lt_or_eq, or_and_right, and_or_left, exists_or]
    rw [(walkTo_succ_walk s p).2 f, split, ← ih, Bool.or_eq_true]
    by_cases h : (walkTo s p).work[f.val].blocked = true
    · simp [h]
    · rw [blocksAt_iff_failure (by simpa using h)]

theorem groupFitsOn_iff : groupFitsOn s p g f = true ↔
    groupFit s (groupMembers s g (walkOrder s)) (walkTo s p) f = none := by
  rw [groupFit_eq_none, groupFitsOn, ← groupWidthOk_iff, ← groupBudgetOk_iff, blocked_eq]
  simp [and_assoc]

/-! ### The statements on launches -/

/-- A candidate on its own, in the terms of the statements (R92). -/
theorem launchedAt_alone (hd : d ∈ walkOrder s) (own : onItsOwn s d = true) : launchedAt s d = true ↔
    blockedBefore s (turn s d) (s.district d).config.feed = false ∧
    countBefore s (turn s d) (s.district d).config.feed <
      (s.feed (s.district d).config.feed).launchWidth ∧
    claimOf s d ≤ freeBefore s (turn s d) (s.district d).config.feed := by
  rw [launchedAt_iff, decisionAt_alone hd own, mem_aloneDecision, blocked_eq, count_eq, free_eq]
  exact and_iff_right rfl

/-- A synchronized group, in the terms of the statements (R94, R95). -/
theorem launchedAt_sync (hd : d ∈ walkOrder s) (sync : inSync s g d = true) : launchedAt s d = true ↔
    groupWaits s g = false ∧ ∀ f, groupFitsOn s (turn s d) g f = true := by
  have member : d ∈ groupMembers s g (walkOrder s) :=
    mem_groupMembers.mpr ⟨hd, (inSync_of_group sync).mp sync⟩
  rw [launchedAt_iff, decisionAt_sync hd sync, mem_groupDecision, and_iff_right member]
  simp only [groupFitsOn_iff]

/-- What a beat leaves, in the terms of the launches that the statements name. -/
theorem takeBeat_feed (s : State) (f : FeedNo) : (takeBeat s).feed f =
    { s.feed f with heldSum := (s.feed f).heldSum + claimsOn s f (walk s).launched } := by
  obtain ⟨r, h, _⟩ := takeBeat_eq s
  rw [h]
  exact (walk_state s).feed f

theorem takeBeat_counter (s : State) (i : CounterIx) :
    (takeBeat s).counter i = (walk s).state.counter i := by
  obtain ⟨r, h, _⟩ := takeBeat_eq s
  rw [h]; rfl

/-- The rotation pointer after a beat (R99). -/
theorem takeBeat_rotation (s : State) : (takeBeat s).rotation =
    ((walkOrder s).filter (launchedAt s)).getLast?.getD s.rotation := by
  obtain ⟨r, h, hr⟩ := takeBeat_eq s
  have same : (walk s).launched.contains = launchedAt s := by
    funext d
    rw [Bool.eq_iff_iff, launchedAt_iff_walk, List.contains_iff_mem]
  rw [h, ← same, ← (walk_state s).rotation]
  exact hr

/-- Settles O52. -/
theorem beatLaunchesTheCandidatesThatFit : Obligations.BeatLaunchesTheCandidatesThatFit := by
  intro s
  refine ⟨fun d hd own => launchedAt_alone hd own, fun d => ?_, fun none => ?_,
    fun a d b order launched last => ?_, ?_⟩
  · dsimp only
    rw [takeBeat_district, (walk_state s).district]
    split
    · next h =>
      have hd := mem_walkOrder_of_launchedAt h
      exact ⟨hd, candidate_of_mem_walkOrder hd, if_pos (launchedAt_iff_walk.mp h)⟩
    · next h => exact if_neg (launchedAt_iff_walk.not.mp h)
  · rw [takeBeat_rotation, List.filter_eq_nil_iff.mpr fun d _ => by simp [none d]]
    rfl
  · have later : b.filter (launchedAt s) = [] :=
      List.filter_eq_nil_iff.mpr fun e he => by simp [last e he]
    rw [takeBeat_rotation, order, List.filter_append, List.filter_cons_of_pos launched, later]
    simp
  · obtain ⟨r, h, _⟩ := takeBeat_eq s
    have keeps := takeBeat_keeps s
    have mode : (takeBeat s).bank.mode = s.bank.mode := h ▸ (walk_state s).mode
    have enable : (takeBeat s).bank.noticeEnable = s.bank.noticeEnable :=
      h ▸ (walk_state s).noticeEnable
    generalize takeBeat s = t at keeps mode enable
    obtain ⟨nextIncident, incidentWrap, groupModes, beats, lines, link, pins, now, choices, pending⟩ := keeps
    cases t
    simp only at *
    subst_vars
    rw [← mode, ← enable]

/-- Settles O54: a member launched shows that the group does not wait, and the group's turn is one. -/
theorem synchronizedGroupAllOrNone : Obligations.SynchronizedGroupAllOrNone := by
  intro s g d mode group
  have sync : inSync s g d = true := by simp [inSync, mode, group]
  refine ⟨fun hd => launchedAt_sync hd sync, fun e inRange groupE launched => ?_⟩
  have hd := mem_walkOrder_of_launchedAt launched
  have fits := (launchedAt_sync hd sync).mp launched
  have calm : ∀ c, (s.district c).config.group = some g →
      (s.district c).state ≠ .backoff ∧ ((s.district c).state = .ready → candidate s c = true) := by
    have waits := fits.1
    simp only [groupWaits, allDistricts, List.any_eq_false, List.mem_finRange, forall_const,
      Bool.and_eq_true, Bool.or_eq_true, decide_eq_true_eq, Bool.not_eq_true', not_and, not_or,
      Bool.not_eq_false] at waits
    exact waits
  refine ⟨(calm e groupE).1, fun ready => ?_⟩
  have he := (mem_walkOrder_of_inRange (inRange e)).mpr ((calm e groupE).2 ready)
  have syncE : inSync s g e = true := (inSync_of_group sync).mpr groupE
  rw [launchedAt_sync he syncE, turn_congr hd (.inr ⟨g, sync, syncE⟩)]
  exact fits

/-! ### Launch width and budget -/

/-- At each place of the walk no feed has more launches than its width, nor claims above its budget (R90,
R92, R95). -/
theorem walkTo_within (s : State) (p : Nat) (f : FeedNo) :
    (onFeed s f (walkTo s p).launched).length ≤ (s.feed f).launchWidth ∧
    claimsOn s f (walkTo s p).launched ≤ (s.feed f).allowance - (s.feed f).heldSum := by
  induction p with
  | zero => simp [walkTo_zero, startWalk]
  | succ p ih =>
    obtain ⟨free, count⟩ := walkTo_work s p f
    have more : (onFeed s f (decisionAt s p).launches) = [] ∨
        (walkTo s p).work[f.val].count + (onFeed s f (decisionAt s p).launches).length ≤
          (s.feed f).launchWidth ∧
        claimsOn s f (decisionAt s p).launches ≤ (walkTo s p).work[f.val].free := by
      rcases decisionAt_cases s p with none | ⟨d, _, _, _, alone⟩ | ⟨d, _, g, _, _, group⟩
      · exact .inl (by rw [none]; rfl)
      · rw [alone, aloneDecision]
        split_ifs with h₁ h₂
        · exact .inl rfl
        · by_cases hf : (s.district d).config.feed = f
          · subst hf
            refine .inr ⟨?_, by simpa using h₂⟩
            have := not_le.mp (not_or.mp h₁).2
            simpa using this
          · exact .inl (by simp [hf])
        · exact .inl rfl
      · rw [group, groupDecision]
        split_ifs with h₁ h₂
        · exact .inl rfl
        · have members : onFeed s f (groupMembers s g (walkOrder s)) = membersOn s g f := by
            rw [← groupMembers_onFeed]
            simp only [onFeed, beq_eq_decide]
          rcases groupFit_eq_none.mp (h₂ f) with none | ⟨_, width, budget⟩
          · exact .inl (members.trans none)
          · exact .inr ⟨members ▸ width, by rw [claimsOn, members]; exact budget⟩
        · exact .inl rfl
    rw [(walkTo_succ_walk s p).1, onFeed_append, claimsOn_append, List.length_append]
    rcases more with none | ⟨width, budget⟩
    · simpa [claimsOn, none] using ih
    · omega

theorem walk_within (s : State) (f : FeedNo) :
    (onFeed s f (walk s).launched).length ≤ (s.feed f).launchWidth ∧
    claimsOn s f (walk s).launched ≤ (s.feed f).allowance - (s.feed f).heldSum :=
  walkTo_length (s := s) ▸ walkTo_within s _ f

theorem walk_launched_nodup (s : State) : (walk s).launched.Nodup :=
  walkTo_length (s := s) ▸ walkTo_launched_nodup s _

/-- Settles O53: the launches that the statement counts are those of the walk. -/
theorem launchesWithinWidthAndBudget : Obligations.LaunchesWithinWidthAndBudget := by
  intro s f here claims
  have perm : here.Perm (onFeed s f (walk s).launched) := by
    refine (List.perm_ext_iff_of_nodup ((List.nodup_finRange 24).filter _)
      ((walk_launched_nodup s).filter _)).mpr fun d => ?_
    simp [launchedAt_iff_walk]
  have sum : claims = claimsOn s f (walk s).launched := (perm.map (claimOf s)).sum_eq
  obtain ⟨width, budget⟩ := walk_within s f
  exact ⟨perm.length_eq ▸ width, sum ▸ budget, sum ▸ takeBeat_feed s f⟩

/-! ### No overtaking -/

/-- The launches before a place are no fewer at a later one. -/
theorem count_mono {q : Nat} (le : p ≤ q) : countBefore s p f ≤ countBefore s q f := by
  rw [← count_eq, ← count_eq]
  induction q, le using Nat.le_induction with
  | base => exact le_rfl
  | succ q _ ih => rw [(walkTo_succ_walk s q).2 f]; exact ih.trans (Nat.le_add_right ..)

/-- A launch needs its feed unblocked and a place within the launch width (R92, R95). -/
theorem room_of_launched (launched : launchedAt s e = true)
    (here : onItsOwn s e = true ∧ (s.district e).config.feed = f ∨
      ∃ g, inSync s g e = true ∧ membersOn s g f ≠ []) :
    blockedBefore s (turn s e) f = false ∧ countBefore s (turn s e) f < (s.feed f).launchWidth := by
  have he := mem_walkOrder_of_launchedAt launched
  rcases here with ⟨own, rfl⟩ | ⟨g, sync, members⟩
  · obtain ⟨free, width, _⟩ := (launchedAt_alone he own).mp launched
    exact ⟨free, width⟩
  · have fits := ((launchedAt_sync he sync).mp launched).2 f
    rw [groupFitsOn_iff, groupFit_eq_none, blocked_eq, count_eq] at fits
    obtain ⟨free, width, _⟩ := fits.resolve_left members
    have some := List.length_pos_iff.mpr members
    exact ⟨free, by omega⟩

/-- Settles O55: the earlier decision leaves the feed blocked or at its width, and neither goes back. -/
theorem noOvertaking : Obligations.NoOvertaking := by
  intro s f d e hd _ before failed here
  by_contra launched
  obtain ⟨free, width⟩ := room_of_launched (by simpa using launched) here
  have notBlocked : (walkTo s (turn s e)).work[f.val].blocked = false := by rw [blocked_eq, free]
  have unblocked : (walkTo s (turn s d)).work[f.val].blocked = false := by
    by_contra h
    rw [blocked_mono before.le (by simpa using h)] at notBlocked
    cases notBlocked
  have noFailure : (decisionAt s (turn s d)).failure f = none := by
    by_contra h
    rw [blocked_mono before (blocked_of_failure (Option.ne_none_iff_isSome.mp h))] at notBlocked
    cases notBlocked
  rcases failed with ⟨own, rfl, stays⟩ | ⟨g, sync, waits, notFit⟩
  · have count := (count_mono (f := (s.district d).config.feed) before.le).trans_lt width
    rw [decisionAt_alone hd own, aloneDecision_failure] at noFailure
    rw [← count_eq] at count
    have budget : claimOf s d ≤ (walkTo s (turn s d)).work[(s.district d).config.feed.val].free := by
      by_contra h
      rw [if_pos ⟨rfl, unblocked, count, not_le.mp h⟩] at noFailure
      cases noFailure
    have fits : launchedAt s d = true := by
      rw [launchedAt_iff, decisionAt_alone hd own, mem_aloneDecision]
      exact ⟨rfl, unblocked, count, budget⟩
    rw [fits] at stays
    cases stays
  · rw [decisionAt_sync hd sync, groupDecision_failure, waits, if_neg (by simp)] at noFailure
    rw [groupFitsOn_iff.mpr noFailure] at notFit
    cases notFit

/-! ### Counters and notices -/

/-- The decision at the turn of a candidate fails a feed for its budget just where the statement says. -/
theorem budgetFailsAt_iff (hd : d ∈ walkOrder s) :
    budgetFailsAt s d f = true ↔ f ∈ budgetFails s (turn s d) := by
  rw [mem_budgetFails]
  have shape : budgetFailsAt s d f = true ↔ blockedBefore s (turn s d) f = false ∧
      (onItsOwn s d = true ∧ (s.district d).config.feed = f ∧
          countBefore s (turn s d) f < (s.feed f).launchWidth ∧
          freeBefore s (turn s d) f < claimOf s d ∨
        ∃ g, inSync s g d = true ∧ groupWaits s g = false ∧ membersOn s g f ≠ [] ∧
          groupWidthOk s (turn s d) g f = true ∧ groupBudgetOk s (turn s d) g f = false) := by
    simp [budgetFailsAt, and_assoc]
  rw [shape, ← blocked_eq, ← count_eq, ← free_eq]
  rcases hg : syncGroup s (s.district d) with _ | g
  · have own := onItsOwn_iff.mpr hg
    rw [decisionAt_alone hd own, aloneDecision_failure, ite_eq_left_iff]
    constructor
    · rintro ⟨free, ⟨_, rfl, width, budget⟩ | ⟨g, sync, _⟩⟩
      · exact fun h => absurd ⟨rfl, free, width, budget⟩ h
      · rw [inSync_iff, hg] at sync; cases sync
    · intro h
      obtain ⟨rfl, free, width, budget⟩ := not_not.mp fun h' => nomatch h h'
      exact ⟨free, .inl ⟨own, rfl, width, budget⟩⟩
  · have sync := inSync_iff.mpr hg
    rw [decisionAt_sync hd sync, groupDecision_failure]
    constructor
    · rintro ⟨free, ⟨own, _⟩ | ⟨g', sync', waits, members, width, budget⟩⟩
      · rw [onItsOwn_iff, hg] at own; cases own
      · rw [inSync_iff, hg, Option.some.injEq] at sync'
        subst sync'
        rw [← Bool.not_eq_true, groupBudgetOk_iff, not_le] at budget
        rw [waits, if_neg (by simp), groupFit_eq_budget]
        exact ⟨members, free, groupWidthOk_iff.mp width, budget⟩
    · intro h
      split at h
      · cases h
      · next waits =>
        obtain ⟨members, free, width, budget⟩ := groupFit_eq_budget.mp h
        refine ⟨free, .inr ⟨g, sync, by simpa using waits, members, groupWidthOk_iff.mpr width, ?_⟩⟩
        rw [← Bool.not_eq_true, groupBudgetOk_iff, not_le]
        exact budget

/-- The launches of the decision at a place, in walk order. -/
theorem launches_eq_filter (s : State) (p : Nat) : (decisionAt s p).launches =
    (walkOrder s).filter fun e => launchedAt s e && decide (turn s e = p) := by
  have mem : ∀ e ∈ walkOrder s, (launchedAt s e && decide (turn s e = p)) = true ↔
      e ∈ (decisionAt s p).launches := by
    intro e _
    rw [Bool.and_eq_true, decide_eq_true_eq, launchedAt_iff]
    constructor
    · rintro ⟨h, ht⟩; rwa [ht] at h
    · intro h; have ht := (mem_launches h).2; exact ⟨by rwa [ht], ht⟩
  have sublist : (decisionAt s p).launches.Sublist (walkOrder s) := by
    rcases decisionAt_cases s p with none | ⟨c, hc, _, _, alone⟩ | ⟨c, _, g, _, _, group⟩
    · rw [none]; exact List.nil_sublist _
    · rw [alone, aloneDecision]
      split_ifs
      · exact List.nil_sublist _
      · exact List.singleton_sublist.mpr hc
      · exact List.nil_sublist _
    · rw [group, groupDecision]
      split_ifs
      · exact List.nil_sublist _
      · exact List.filter_sublist
      · exact List.nil_sublist _
  have perm : (decisionAt s p).launches.Perm
      ((walkOrder s).filter fun e => launchedAt s e && decide (turn s e = p)) := by
    refine (List.perm_ext_iff_of_nodup (launches_nodup s _) ((walkOrder_nodup s).filter _)).mpr fun e => ?_
    rw [List.mem_filter]
    exact ⟨fun h => ⟨(mem_launches h).1, (mem e (mem_launches h).1).mpr h⟩, fun h => (mem e h.1).mp h.2⟩
  have all : (decisionAt s p).launches.filter
      (fun e => launchedAt s e && decide (turn s e = p)) = (decisionAt s p).launches :=
    List.filter_eq_self.mpr fun e he => (mem e (mem_launches he).1).mpr he
  exact (all ▸ sublist.filter _).eq_of_length perm.length_eq

/-- The notices of the decision at a place are those that the statement names for its candidate. -/
theorem noticesAt_eq (hp : (walkOrder s)[p]? = some d) : noticesAt s p = decisionNotices s d := by
  have hd := List.mem_of_getElem? hp
  by_cases ht : turn s d = p
  · subst ht
    have fails : (budgetFails s (turn s d)).flatMap
          (fun f => countNotices s (feedCounter f .budgetWaits)) =
        allFeeds.flatMap fun f =>
          if budgetFailsAt s d f then countNotices s (feedCounter f .budgetWaits) else [] := by
      have same : budgetFails s (turn s d) = allFeeds.filter (budgetFailsAt s d) :=
        List.filter_congr fun f _ => by
          rw [Bool.eq_iff_iff, decide_eq_true_iff, ← mem_budgetFails, budgetFailsAt_iff hd]
      rw [same]
      generalize allFeeds = feeds
      induction feeds with
      | nil => rfl
      | cons f feeds ih => by_cases h : budgetFailsAt s d f = true <;> simp [h, ih]
    rw [noticesAt, decisionNotices, if_pos hp, launches_eq_filter, fails]
  · have other : (walkOrder s)[turn s d]? ≠ some d := fun h => ht (walkOrder_place_unique h hp)
    have none := decisionAt_not_turn hp ht
    rw [decisionNotices, if_neg other, noticesAt, budgetFails, none]
    simp [Decision.nothing]

theorem notices_of_walk (s : State) : (List.range (walkOrder s).length).flatMap (noticesAt s) =
    (walkOrder s).flatMap (decisionNotices s) := by
  have upTo : ∀ p ≤ (walkOrder s).length, (List.range p).flatMap (noticesAt s) =
      ((walkOrder s).take p).flatMap (decisionNotices s) := by
    intro p
    induction p with
    | zero => simp
    | succ p ih =>
      intro hp
      have here := List.getElem?_eq_getElem (l := walkOrder s) (i := p) hp
      rw [List.range_succ, List.flatMap_append, ih (by omega), List.take_add_one, List.flatMap_append,
        here, List.flatMap_singleton, noticesAt_eq here]
      simp
  rw [upTo _ le_rfl, List.take_length]

/-- A feed fails its budget somewhere in the walk where it fails at some candidate's turn. -/
theorem budgetFails_iff : f ∈ (List.range (walkOrder s).length).flatMap (budgetFails s) ↔
    ((walkOrder s).any fun d => budgetFailsAt s d f) = true := by
  rw [List.any_eq_true, List.mem_flatMap]
  constructor
  · rintro ⟨p, hp, hf⟩
    rcases decisionAt_cases s p with none | ⟨d, hd, rfl, _⟩ | ⟨d, hd, g, rfl, _⟩
    · rw [mem_budgetFails, none] at hf; cases hf
    · exact ⟨d, hd, (budgetFailsAt_iff hd).mpr hf⟩
    · exact ⟨d, hd, (budgetFailsAt_iff hd).mpr hf⟩
  · rintro ⟨d, hd, hf⟩
    exact ⟨turn s d, by simpa using turn_lt_length hd, (budgetFailsAt_iff hd).mp hf⟩

/-- Settles O56: the counters and the notices of the walk's decisions. -/
theorem beatCountsAndNotices : Obligations.BeatCountsAndNotices := by
  intro s bumped
  have launches : ∀ d k, (takeBeat s).counter (districtCounter d k) =
      if launchedAt s d = true ∧ k = .launches then bumped (districtCounter d k)
      else s.counter (districtCounter d k) := by
    intro d k
    rw [takeBeat_counter, (walk_state s).counter]
    refine if_congr ?_ rfl rfl
    simp only [districtCounter_inj, districtCounter_ne_feedCounter, and_false, exists_false, or_false,
      launchedAt_iff_walk]
    exact ⟨fun ⟨e, he, hde, hk⟩ => ⟨hde ▸ he, hk⟩, fun ⟨hd, hk⟩ => ⟨d, hd, rfl, hk⟩⟩
  have waits : ∀ f k, (takeBeat s).counter (feedCounter f k) =
      if ((walkOrder s).any fun d => budgetFailsAt s d f) = true ∧ k = .budgetWaits then
        bumped (feedCounter f k)
      else s.counter (feedCounter f k) := by
    intro f k
    rw [takeBeat_counter, (walk_state s).counter]
    refine if_congr ?_ rfl rfl
    rw [← budgetFails_iff]
    simp only [feedCounter_inj, (districtCounter_ne_feedCounter _ _).symm, and_false, exists_false,
      false_or]
    exact ⟨fun ⟨f', hf', hff, hk⟩ => ⟨hff ▸ hf', hk⟩, fun ⟨hf, hk⟩ => ⟨f, hf, rfl, hk⟩⟩
  refine ⟨fun d => ⟨?_, fun k hk => ?_⟩, fun f => ⟨?_, ?_⟩, ?_⟩
  · rw [launches]; simp
  · rw [launches, if_neg fun h => hk h.2]
  · rw [waits, if_neg fun h => nomatch h.2]
  · rw [waits]; simp
  · obtain ⟨r, h, _⟩ := takeBeat_eq s
    rw [h, ← notices_of_walk]
    exact (walk_state s).notices

end Sys2Proof.Machine
end

section
/-! The events outside the Link Interface: the state that each effect leaves, as one record of the state before
with the notices it hands, and the statements on samples, expiries and feed edges. -/

namespace Sys2Proof.Machine

variable {s t u v : State} {d : DistrictNo} {f : FeedNo} {x y : District}

/-- Two states whose districts and feeds read alike, and whose other parts are the same, are the same. -/
theorem State.ext_parts (districts : ∀ d, s.district d = t.district d)
    (feeds : ∀ f, s.feed f = t.feed f)
    (rest : { s with districts := t.districts, feeds := t.feeds } = t) : s = t := by
  rw [← rest, ← State.districts_ext s t districts, ← State.feeds_ext s t feeds]

/-! ### How an event is taken -/

theorem whenTaken_of {taken : Bool} {effect : State → State} (free : s.held = false) (h : taken = true) :
    whenTaken taken effect s = effect s := by
  simp [whenTaken, free, h]

theorem whenTaken_not {taken : Bool} {effect : State → State} (h : taken = false) :
    whenTaken taken effect s = s := by
  simp [whenTaken, h]

theorem whenTaken_held {taken : Bool} {effect : State → State} (h : s.held = true) :
    whenTaken taken effect s = s := by
  simp [whenTaken, h]

/-- An effect that leaves `u` and hands the notices `made` closes so. -/
theorem closes_of_eq {made : List Notice} (h : v = { u with notices := handAll made u.notices }) :
    Closes u [] made (closeEvent v) := by
  subst h
  exact closes_closeEvent rfl rfl rfl rfl rfl rfl rfl rfl rfl rfl rfl rfl rfl (by simp) rfl

/-- An event that is taken closes as its effect says. -/
theorem taken_closes {taken : Bool} {effect : State → State} {made : List Notice} (free : s.held = false)
    (h : taken = true) (eff : effect s = { u with notices := handAll made u.notices }) :
    ∃ t, Host.Outcome.next (φ := Fault) (ρ := Refusal)
        (whenTaken taken (fun s => closeEvent (effect s)) s) = .next t ∧ Closes u [] made t :=
  ⟨_, rfl, whenTaken_of free h ▸ closes_of_eq eff⟩

/-- A run of one increment, then one notice. -/
theorem makeNotice_increment (i : CounterIx) (n : Notice) : makeNotice n (increment i s) =
    { s with bank := countedBank s [i], notices := handAll (runNotices s [i] ++ [n]) s.notices } := by
  have one : increment i s = [i].foldl (fun s i => increment i s) s := rfl
  rw [one, increments_eq s [i] (List.nodup_singleton i), makeNotice_eq, handAll_append]
  rfl

/-! ### Samples -/

theorem takeSample_open {value : Nat} {beyond : Bool} (h : (s.district d).switchClosed = false) :
    takeSample d value beyond s = s.setDistrict d (sensed (s.district d) value beyond) := by
  have still : (recordSample value beyond (s.district d)).switchClosed ≠ true := by
    simpa [recordSample] using h
  exact if_neg still

theorem takeSample_closed {value : Nat} {beyond : Bool} (h : (s.district d).switchClosed = true) :
    takeSample d value beyond s =
      match evaluateSample value (sensed (s.district d) value beyond) with
      | (y, .pass) => s.setDistrict d y
      | (y, .flip) => flipDistrict d (s.setDistrict d y)
      | (y, .trip cause) => tripDistrict d cause value beyond (s.setDistrict d y) := by
  have still : (recordSample value beyond (s.district d)).switchClosed = true := h
  exact if_pos still

/-- Settles O36. -/
theorem sampleDecidingNothing : Obligations.SampleDecidingNothing := by
  intro s d value beyond free x
  refine ⟨fun isOpen => taken_closes free rfl (takeSample_open isOpen), fun y isClosed pass => ?_⟩
  refine taken_closes free rfl ?_
  rw [takeSample_closed isClosed, pass]
  rfl

/-- Settles O37. -/
theorem sampleFlips : Obligations.SampleFlips := by
  intro s d value beyond y free isClosed flips
  refine taken_closes free rfl ?_
  rw [takeSample_closed isClosed, flips]
  have polarity : ((s.setDistrict d y).district d).polarity = y.polarity := by simp
  simp only [flipDistrict, makeNotice_increment, polarity]
  rfl

/-! ### Trips -/

theorem releaseClaim_of (h : s.district d = y) : releaseClaim d s =
    (s.setFeed y.config.feed
      { s.feed y.config.feed with
        heldSum := (s.feed y.config.feed).heldSum - y.heldClaim.getD 0 }).setDistrict d
      { y with heldClaim := none } := by
  subst h
  rfl

/-- The number that an incident opened or gone on with at a trip carries (R61). -/
def tripIncident (s : State) (x : District) : Nat :=
  if x.incidentOpen then x.incident else if s.incidentWrap = 0 then 0 else s.nextIncident

/-- The next incident number after a trip (R61). -/
def incidentAfter (s : State) (x : District) : Nat :=
  if x.incidentOpen ∨ s.incidentWrap = 0 then s.nextIncident
  else if s.incidentWrap ≤ s.nextIncident then 1 else s.nextIncident + 1

/-- Writes of a district and of a feed or the numbering do not meet. -/
theorem State.setFeed_setDistrict (z : Feed) :
    (s.setDistrict d x).setFeed f z = (s.setFeed f z).setDistrict d x := rfl

theorem State.setDistrict_setNumbering (n w : Nat) :
    (s.setNumbering n w).setDistrict d x = (s.setDistrict d x).setNumbering n w := rfl

/-- A trip leaves an incident open, one that was open or a new one (R61). -/
theorem ensureIncident_eq : ensureIncident d s =
    (s.setDistrict d
      { s.district d with
        incident := tripIncident s (s.district d), incidentOpen := true }).setNumbering
      (incidentAfter s (s.district d)) s.incidentWrap := by
  unfold ensureIncident tripIncident incidentAfter
  by_cases isOpen : (s.district d).incidentOpen = true
  · have same : ({ s.district d with incident := (s.district d).incident, incidentOpen := true } : District) =
        s.district d := by rw [← isOpen]
    simp only [isOpen, ↓reduceIte, same, true_or, State.setDistrict_same]
    rfl
  · by_cases wrap : s.incidentWrap = 0
    · simp only [isOpen, wrap, openIncident, incidentNumber, ↓reduceIte, or_true, Bool.false_eq_true]
      rw [← wrap]
      rfl
    · simp only [isOpen, wrap, openIncident, incidentNumber, ↓reduceIte, or_self, Bool.false_eq_true]
      rfl

/-- The counters of a trip as a run of different ones, in ascending index (R51, R53, R115). -/
def tripRun (d : DistrictNo) (cause : TripCause) (entered : DistrictState) : List CounterIx :=
  [districtCounter d .trips] ++ (if cause = .hard then [districtCounter d .hardTrips] else [])
    ++ (if entered = .lockout then [districtCounter d .lockouts] else [])

theorem tripRun_nodup (cause : TripCause) (entered : DistrictState) : (tripRun d cause entered).Nodup := by
  unfold tripRun
  split <;> split <;> simp [districtCounter_inj]

theorem tripCounters_eq (cause : TripCause) (entered : DistrictState) : tripCounters d cause entered s =
    (tripRun d cause entered).foldl (fun s i => increment i s) s := by
  unfold tripCounters tripRun
  dsimp only
  split <;> split <;> rfl

/-- Where a trip takes the record that the detector left (R51 to R53), its incident given. -/
def trippedRecord (cause : TripCause) (incident : Nat) (y : District) : District :=
  afterTrip (tripRecord cause { y with heldClaim := none, incident := incident, incidentOpen := true })

theorem afterTrip_incident : (afterTrip x).incident = x.incident := by
  unfold afterTrip
  split
  · rfl
  · split <;> rfl

/-- The state that a trip leaves, the detector having left the record `y`. -/
theorem tripDistrict_eq (cause : TripCause) (value : Nat) (beyond : Bool) :
    tripDistrict d cause value beyond (s.setDistrict d y) =
      { (s.setFeed y.config.feed
          { s.feed y.config.feed with
            heldSum := (s.feed y.config.feed).heldSum - y.heldClaim.getD 0 }).setDistrict d
          (trippedRecord cause (tripIncident s y) y) with
        nextIncident := incidentAfter s y
        bank := countedBank s (tripRun d cause (trippedRecord cause (tripIncident s y) y).state)
        notices := handAll
          (runNotices s (tripRun d cause (trippedRecord cause (tripIncident s y) y).state)
            ++ [.trip d (tripIncident s y) cause (trippedRecord cause (tripIncident s y) y).state value beyond])
          s.notices } := by
  have released := releaseClaim_of (s := s.setDistrict d y) (State.district_setDistrict_self ..)
  rw [State.setFeed_setDistrict, State.setDistrict_setDistrict] at released
  generalize hw : State.setFeed s y.config.feed _ = w at *
  have ensured := ensureIncident_eq (s := releaseClaim d (s.setDistrict d y)) (d := d)
  rw [released, State.district_setDistrict_self, State.setDistrict_setDistrict] at ensured
  have numbers : tripIncident (w.setDistrict d { y with heldClaim := none }) { y with heldClaim := none } =
      tripIncident s y ∧
      incidentAfter (w.setDistrict d { y with heldClaim := none }) { y with heldClaim := none } =
      incidentAfter s y := by subst hw; exact ⟨rfl, rfl⟩
  rw [numbers.1, numbers.2] at ensured
  simp only [tripDistrict, released, ensured, State.setNumbering_district, State.district_setDistrict_self,
    trippedRecord, afterTrip_incident, tripCounters_eq, increments_eq _ _ (tripRun_nodup _ _), makeNotice_eq,
    State.setDistrict_setNumbering, State.setDistrict_setDistrict, handAll_append]
  subst hw
  rfl

/-- Settles O38: the record that a trip leaves is the statement's, and the rest is the trip's own. -/
theorem sampleTrips : Obligations.SampleTrips := by
  intro s d value beyond y cause free isClosed trips f number following r backedOff z run
  have record : trippedRecord cause number y = z := by
    by_cases steady : y.state = .energized
    · exact (if_pos (beq_iff_eq.mpr steady)).trans (if_pos steady).symm
    · refine (if_neg (beq_iff_eq.not.mpr steady)).trans (.trans ?_ (if_neg steady).symm)
      by_cases last : y.attemptsLeft = 0
      · exact (if_pos last).trans (if_pos last).symm
      · exact (if_neg last).trans (if_neg last).symm
  refine taken_closes free rfl ?_
  rw [takeSample_closed isClosed, trips]
  dsimp only
  rw [tripDistrict_eq]
  have number_eq : tripIncident s y = number := rfl
  rw [number_eq, record]
  rfl

/-! ### Expiries -/

/-- The backoff product never falls as the step rises, and neither does its cut (R55). -/
theorem backoffMs_le_succ (c : DistrictConfig) (step : Nat) : backoffMs c step ≤ backoffMs c (step + 1) := by
  have power : 2 ^ (step - 1) ≤ 2 ^ (step + 1 - 1) := Nat.pow_le_pow_right (by omega) (by omega)
  have product := Nat.mul_le_mul_left c.backoffBase power
  unfold backoffMs
  omega

/-- A backoff of a configuration in range takes from 10 to 60,000 ms (R55). -/
theorem backoffMs_range {c : DistrictConfig} (inRange : ConfigInRange c) (step : Nat) :
    10 ≤ backoffMs c step ∧ backoffMs c step ≤ 60000 := by
  have base : 1 ≤ c.backoffBase * 2 ^ (step - 1) :=
    Nat.mul_pos (by omega) (Nat.pow_pos (by omega))
  unfold backoffMs
  omega

/-- Settles O39. -/
theorem backoffLength : Obligations.BackoffLength := by
  intro c step _ _
  refine ⟨rfl, backoffMs_le_succ c step, fun inRange => ?_⟩
  obtain ⟨low, high⟩ := backoffMs_range inRange step
  have cap : c.backoffBase ≤ c.backoffCap := by omega
  exact ⟨low, high, by simp [backoffMs, cap]⟩

/-- A proving expiry writes the record and hands its notice (R49, R62). -/
theorem proveDistrict_eq : proveDistrict d s =
    { s.setDistrict d (provenRecord (s.district d)) with
      notices := handAll
        [.proven d (s.district d).incident
          ((s.district d).config.retryBudget - (s.district d).attemptsLeft)] s.notices } := by
  simp only [proveDistrict, makeNotice_eq]
  rfl

/-- A settle expiry with a proving time (R47). -/
theorem settleDistrict_proving (h : (s.district d).config.provingTime ≠ 0) : settleDistrict d s =
    (releaseClaim d s).setDistrict d
      { s.district d with
        state := .proving, heldClaim := none, observedPeak := learnedPeak (s.district d)
        timerPhase := .proving, timerLeft := (s.district d).config.provingTime * 100 * 1152 } := by
  have x : (releaseClaim d s).district d = { s.district d with heldClaim := none } := by simp
  simp only [settleDistrict, x, if_neg h, provingRecord, learnedPeak, msTicks, Config.ticksPerMs]

/-- A settle expiry without a proving time is a proving expiry too (R47, R49). -/
theorem settleDistrict_energized (h : (s.district d).config.provingTime = 0) : settleDistrict d s =
    { (releaseClaim d s).setDistrict d
        { s.district d with
          state := .energized, heldClaim := none, observedPeak := learnedPeak (s.district d)
          timerPhase := .idle, timerLeft := 0, attemptsLeft := (s.district d).config.retryBudget
          backoffStep := 0, incident := 0, incidentOpen := false } with
      notices := handAll
        [.proven d (s.district d).incident
          ((s.district d).config.retryBudget - (s.district d).attemptsLeft)] s.notices } := by
  have x : (releaseClaim d s).district d = { s.district d with heldClaim := none } := by simp
  simp only [settleDistrict, x, if_pos h, proveDistrict_eq, State.district_setDistrict_self,
    State.setDistrict_setDistrict, State.setDistrict_notices, releaseClaim_notices]
  rfl

theorem releaseClaim_setDistrict : (releaseClaim d s).setDistrict d x =
    (s.setFeed (s.district d).config.feed
      { s.feed (s.district d).config.feed with
        heldSum := (s.feed (s.district d).config.feed).heldSum -
          (s.district d).heldClaim.getD 0 }).setDistrict d x := by
  rw [releaseClaim_of rfl, State.setDistrict_setDistrict]

/-- The conditions under which a district's timer expires. -/
theorem timerOver_iff {state : DistrictState} {phase : TimerPhase} :
    (x.state == state && x.timerPhase == phase && x.timerLeft == 0) = true ↔
      x.state = state ∧ x.timerPhase = phase ∧ x.timerLeft = 0 := by
  simp [and_assoc]

theorem timerOver_not {state : DistrictState} {phase : TimerPhase}
    (h : x.state ≠ state ∨ x.timerPhase ≠ phase ∨ x.timerLeft ≠ 0) :
    (x.state == state && x.timerPhase == phase && x.timerLeft == 0) = false := by
  rw [← Bool.not_eq_true, timerOver_iff]
  tauto

/-- Settles O40. -/
theorem settleExpiry : Obligations.SettleExpiry := by
  intro s d free x f s₁ peak
  refine ⟨fun state phase left time => ?_, fun state phase left time => ?_, fun h =>
    congrArg Host.Outcome.next (whenTaken_not (timerOver_not h))⟩
  · refine taken_closes free (timerOver_iff.mpr ⟨state, phase, left⟩) ?_
    rw [settleDistrict_proving time, releaseClaim_setDistrict]
    rfl
  · refine taken_closes free (timerOver_iff.mpr ⟨state, phase, left⟩) ?_
    rw [settleDistrict_energized time, releaseClaim_setDistrict]
    rfl

/-- Settles O41. -/
theorem provingExpiry : Obligations.ProvingExpiry := by
  intro s d free x
  refine ⟨fun state phase left => ?_, fun h =>
    congrArg Host.Outcome.next (whenTaken_not (timerOver_not h))⟩
  exact taken_closes free (timerOver_iff.mpr ⟨state, phase, left⟩) proveDistrict_eq

/-- Settles O42. -/
theorem backoffAndPulseExpiry : Obligations.BackoffAndPulseExpiry := by
  intro s free
  refine ⟨?_, fun ended => ?_, fun running => ?_⟩
  · intro d x
    refine ⟨fun state phase left => ?_, fun h =>
      congrArg Host.Outcome.next (whenTaken_not (timerOver_not h))⟩
    exact taken_closes free (timerOver_iff.mpr ⟨state, phase, left⟩) rfl
  · exact taken_closes free (by simpa using ended) rfl
  · exact congrArg Host.Outcome.next (whenTaken_not (by simpa using running))

/-! ### Feed edges -/

/-- A line level that only is recorded (R73). -/
theorem takeLineLevel_recorded {level : LineLevel}
    (h : level = .asserted ∧ (s.feed f).state = .suspended ∨
      level = .released ∧ (s.feed f).state ≠ .suspended) :
    takeLineLevel f level s = s.setFeed f { s.feed f with lineLevel := level } := by
  unfold takeLineLevel
  simp only [State.feed_setFeed, ↓reduceIte]
  rcases h with ⟨rfl, h⟩ | ⟨rfl, h⟩
  · simp [h]
  · rcases hs : (s.feed f).state <;> simp_all

/-- A released line of a Suspended feed starts the resume delay (R78). -/
theorem takeLineLevel_released (h : (s.feed f).state = .suspended) :
    takeLineLevel f .released s = feedReleased s f := by
  have write : ∀ a b : Feed, (s.setFeed f a).setFeed f b = s.setFeed f b := fun a b => by
    simp [State.setFeed]
  unfold takeLineLevel
  simp only [State.feed_setFeed, ↓reduceIte, h, releaseFault, write]
  rfl

/-- The powered members, as `feedAsserted` names them. -/
theorem isPoweredMember_eq (f : FeedNo) : isPoweredMember f = fun x =>
    decide (x.config.feed = f) &&
      decide (x.state = .settling ∨ x.state = .proving ∨ x.state = .energized) := by
  funext x
  simp [isPoweredMember, closedState, beq_eq_decide, Bool.decide_or, Bool.or_assoc]

/-- The powered members return to Ready, with the attempt of a restart refunded (R75, R76). -/
theorem feedAsserted_district (s : State) (f : FeedNo) (d : DistrictNo) :
    (feedAsserted s f).district d =
      if isPoweredMember f (s.district d) then returnedToReady (s.district d) else s.district d := by
  have read : (feedAsserted s f).district d =
      (fun x : District =>
        if isPoweredMember f x then
          { x with
            state := .ready, switchClosed := false, accumulator := 0, timerPhase := .idle, timerLeft := 0
            heldClaim := none, feedLossMark := true
            attemptsLeft :=
              if x.state = .energized then x.attemptsLeft
              else min (x.attemptsLeft + 1) x.config.retryBudget }
        else x) (s.district d) := by
    rw [isPoweredMember_eq]
    simp [feedAsserted, State.district]
  rw [read]
  dsimp only
  split
  · next member =>
    simp only [isPoweredMember, closedState, Bool.and_eq_true, Bool.or_eq_true, beq_iff_eq] at member
    obtain ⟨_, (h | h) | h⟩ := member <;> simp [returnedToReady, restarting, h]
  · rfl

theorem feedAsserted_feed (s : State) (f g : FeedNo) : (feedAsserted s f).feed g =
    if g = f then
      { s.feed f with
        state := .suspended, resumeTimer := none, lineLevel := .asserted
        heldSum := (s.feed f).heldSum - claimSum s (isPoweredMember f) f }
    else s.feed g := by
  rw [isPoweredMember_eq]
  simp [feedAsserted, State.feed]

/-- No member of feed `f` is a member of another. -/
theorem claimSum_isPoweredMember_ne {g : FeedNo} (h : g ≠ f) : claimSum s (isPoweredMember f) g = 0 := by
  refine List.sum_eq_zero fun n hn => ?_
  obtain ⟨d, _, rfl⟩ := List.mem_map.mp hn
  rw [if_neg]
  simp only [isPoweredMember, Bool.and_eq_true, beq_iff_eq]
  rintro ⟨⟨hf, _⟩, hg⟩
  exact h (hg.symm.trans hf)

/-- An asserted line of a feed that is not Suspended suspends it (R74, R75, R76). -/
theorem takeLineLevel_asserted (h : (s.feed f).state ≠ .suspended) : takeLineLevel f .asserted s =
    { feedAsserted s f with notices := handAll (assertionNotices s f) s.notices } := by
  have down : takeLineLevel f .asserted s =
      assertFault f (s.setFeed f { s.feed f with lineLevel := .asserted }) := by
    unfold takeLineLevel
    simp only [State.feed_setFeed, ↓reduceIte]
    rcases hs : (s.feed f).state <;> simp_all
  have write : ∀ a b : Feed, (s.setFeed f a).setFeed f b = s.setFeed f b := fun a b => by
    simp [State.setFeed]
  rw [down, assertFault]
  simp only [State.feed_setFeed, ↓reduceIte, write, makeNotice_increment]
  refine State.ext_parts (fun d => ?_) (fun g => ?_) rfl
  · rw [withdraw_district]
    exact (feedAsserted_district s f d).symm
  · rw [withdraw_feed]
    refine .trans ?_ (feedAsserted_feed s f g).symm
    by_cases hg : g = f
    · subst hg
      have suspended : ∀ z : Feed, (s.setFeed g z).feed g = z := fun z => by simp
      exact congrArg (fun z : Feed => { z with heldSum := z.heldSum - claimSum s (isPoweredMember g) g })
        (suspended _) |>.trans (if_pos rfl).symm
    · rw [if_neg hg]
      have other : ∀ z : Feed, (s.setFeed f z).feed g = s.feed g := fun z => by simp [hg]
      refine (congrArg (fun z : Feed => { z with heldSum := z.heldSum - claimSum s (isPoweredMember f) g })
        (other _)).trans ?_
      rw [claimSum_isPoweredMember_ne hg]
      rfl

/-- The edge of a fault input to a level it does not stand at (R73). -/
theorem exec_feedFaultEdge {level : Level} (free : s.held = false)
    (edge : s.pins.faultInput[f.val] ≠ level) : exec (.feedFaultEdge f level) s =
      .next (closeEvent (takeLineLevel f (readFault (s.feed f).faultLevel level) (setFaultPin f level s))) := by
  have held : (setFaultPin f level s).held = false := free
  have read : faultLineOf (setFaultPin f level s) f = readFault (s.feed f).faultLevel level := by
    simp [faultLineOf, setFaultPin, State.feed]
  show Host.Outcome.next (if _ then s else _) = _
  rw [if_neg edge, whenTaken_of held rfl, read]

/-- Settles O22. -/
theorem feedAssertionSuspends : Obligations.FeedAssertionSuspends := by
  intro s f level free edge asserted state
  refine ⟨_, exec_feedFaultEdge free edge, ?_⟩
  rw [asserted]
  exact closes_of_eq (takeLineLevel_asserted (s := setFaultPin f level s) state)

/-- Settles O23. -/
theorem feedReleaseAndResume : Obligations.FeedReleaseAndResume := by
  intro s f free
  refine ⟨fun level edge => ?_, ?_, fun state left => ?_, fun h => ?_⟩
  · intro pins
    refine ⟨fun released state => ⟨_, exec_feedFaultEdge free edge, ?_⟩,
      fun released state => ⟨_, exec_feedFaultEdge free edge, ?_⟩,
      fun asserted state => ⟨_, exec_feedFaultEdge free edge, ?_⟩⟩
    · rw [released]
      exact closes_of_eq (takeLineLevel_released (s := setFaultPin f level s) state)
    · rw [released]
      exact closes_of_eq (takeLineLevel_recorded (s := setFaultPin f level s) (.inr ⟨rfl, state⟩))
    · rw [asserted]
      exact closes_of_eq (takeLineLevel_recorded (s := setFaultPin f level s) (.inl ⟨rfl, state⟩))
  · exact congrArg Host.Outcome.next (if_pos rfl)
  · refine taken_closes free (by simp [state, left]) ?_
    simp only [resumeFeed, makeNotice_eq]
    rfl
  · exact congrArg Host.Outcome.next (whenTaken_not (by simpa [← not_and_or] using h))

/-! ### Beats -/

/-- Settles O30. -/
theorem beatEvents : Obligations.BeatEvents := by
  intro s free
  refine ⟨fun mode timer => ?_, fun h => ?_, fun mode spacing => ?_, fun t₀ last early => ?_,
    fun mode => ?_⟩
  · exact taken_closes free (by simp [mode, timer]) rfl
  · exact congrArg Host.Outcome.next (whenTaken_not (by simpa [← not_and_or] using h))
  · have passed : spacingPassed s = true := by
      unfold spacingPassed
      split
      · rfl
      · next t₀ last => exact decide_eq_true (spacing t₀ last)
    exact taken_closes free (by simp [mode, passed]) rfl
  · have early' : spacingPassed s = false := by
      rw [spacingPassed, last]
      exact decide_eq_false (not_le.mpr early)
    exact congrArg Host.Outcome.next (whenTaken_not (by simp [early']))
  · exact congrArg Host.Outcome.next (whenTaken_not (by simp [mode]))

/-! ### Steps and notices -/

/-- Settles O1. -/
theorem stepRunsFrontCommand : Obligations.StepRunsFrontCommand := by
  intro s c rest front
  rw [step, front]

/-- Settles O6. -/
theorem noticeEntry : Obligations.NoticeEntry := by
  intro n s
  refine ⟨fun masked => ?_, fun enabled room => ?_, fun enabled full => ?_⟩
  · rw [makeNotice, masked]
    rfl
  · rw [makeNotice, if_pos enabled, enterQueue_room _ _ room]
    rfl
  · rw [makeNotice, if_pos enabled, enterQueue_full _ _ full]
    rfl

end Sys2Proof.Machine
end

section
/-! What a command can do, said once for every command: it changes nothing, or it is an event that closes as
chapter 9 says, or it moves the reset input, the supply or a fault input. The statements on every command are
read off these cases. -/

namespace Sys2Proof.Machine

variable {s t u : State} {c : Instr} {d : DistrictNo} {f : FeedNo}

/-! ### The cases -/

/-- What an event outside the Link Interface does before it closes, where it is taken. -/
inductive PartEvent (s : State) : Instr → State → Prop where
  | sample (d : DistrictNo) (value : BitVec 12) (beyond : Bool) :
    PartEvent s (.sample d value beyond) (takeSample d value.toNat beyond s)
  | settle (d : DistrictNo) (state : (s.district d).state = .settling)
    (phase : (s.district d).timerPhase = .settle) (left : (s.district d).timerLeft = 0) :
    PartEvent s (.settleExpiry d) (settleDistrict d s)
  | proving (d : DistrictNo) (state : (s.district d).state = .proving)
    (phase : (s.district d).timerPhase = .proving) (left : (s.district d).timerLeft = 0) :
    PartEvent s (.provingExpiry d) (proveDistrict d s)
  | backoff (d : DistrictNo) (state : (s.district d).state = .backoff)
    (phase : (s.district d).timerPhase = .backoff) (left : (s.district d).timerLeft = 0) :
    PartEvent s (.backoffExpiry d) (s.setDistrict d (backoffOver (s.district d)))
  | interval : PartEvent s .intervalExpiry (produceBeat s)
  | beatInput : PartEvent s .beatInputEdge (produceBeat s)
  | pulse : PartEvent s .pulseExpiry (s.setBeats { s.beats with pulseTimer := none })
  | faultEdge (f : FeedNo) (level : Level) (edge : s.pins.faultInput[f.val] ≠ level) :
    PartEvent s (.feedFaultEdge f level)
      (takeLineLevel f (readFault (s.feed f).faultLevel level) (setFaultPin f level s))
  | resume (f : FeedNo) (state : (s.feed f).state = .resuming) :
    PartEvent s (.resumeExpiry f) (resumeFeed f s)

/-- What an event of the Link Interface does before it closes, where it is taken. -/
inductive LinkEvent (s : State) : Instr → State → Prop where
  | request (c : Instr) (f : Frame) (frame : c.frame? = some f) : LinkEvent s c (deliver f s)
  | byte (b : Byte) (stop : Level) : LinkEvent s (.receiveByte b stop) (receive b s)
  | gap (inside : s.link.receiver ≠ .hunting) : LinkEvent s .gapExpiry (discard .gap (hunt s))
  | sent (c : Instr) (ended : transmissionOver s = true)
    (command : c = .transmissionEnd ∨ c = .softReset ∧ sendingResetReply s = true) :
    LinkEvent s c (endTransmission s)

/-- What a command can do. -/
inductive Does (s : State) : Instr → State → Prop where
  | nothing (c : Instr) : Does s c s
  | part (c : Instr) (u : State) (free : s.held = false) (event : PartEvent s c u) :
    Does s c (closeEvent u)
  | link (c : Instr) (u : State) (free : s.held = false) (event : LinkEvent s c u) :
    Does s c (closeLinkEvent u)
  | heldEdge (f : FeedNo) (level : Level) (held : s.held = true) :
    Does s (.feedFaultEdge f level) (setFaultPin f level s)
  | hardReset : Does s .hardReset (startHardReset s)
  | resetEnd (strap : LinkRate) (low : s.pins.resetInput = .low) :
    Does s (.resetEnd strap) (releaseReset strap s)
  | powerUp (strap : LinkRate) (down : s.pins.supplyUp = false) :
    Does s (.powerUp strap) (completePowerUp strap s)
  | lossOfSupply : Does s .lossOfSupply (loseSupply s)

/-- What is taken only where it occurs and the part is not held. -/
theorem whenTaken_cases (taken : Bool) (effect : State → State) (s : State) :
    whenTaken taken effect s = s ∨
      s.held = false ∧ taken = true ∧ whenTaken taken effect s = effect s := by
  rcases hs : s.held with _ | _
  · rcases ht : taken with _ | _
    · exact .inl (whenTaken_not rfl)
    · exact .inr ⟨rfl, rfl, whenTaken_of hs rfl⟩
  · exact .inl (whenTaken_held hs)

theorem Does.ofPart {taken : Bool} {effect : State → State}
    (event : taken = true → PartEvent s c (effect s)) :
    Does s c (whenTaken taken (fun s => closeEvent (effect s)) s) := by
  rcases whenTaken_cases taken (fun s => closeEvent (effect s)) s with h | ⟨free, occurs, h⟩ <;> rw [h]
  · exact .nothing c
  · exact .part c _ free (event occurs)

theorem Does.ofLink {taken : Bool} {effect : State → State}
    (event : taken = true → LinkEvent s c (effect s)) :
    Does s c (whenTaken taken (fun s => closeLinkEvent (effect s)) s) := by
  rcases whenTaken_cases taken (fun s => closeLinkEvent (effect s)) s with h | ⟨free, occurs, h⟩ <;> rw [h]
  · exact .nothing c
  · exact .link c _ free (event occurs)

theorem Does.ofRequest {f : Frame} (frame : c.frame? = some f) : Does s c (requestArrives f s) :=
  .ofLink fun _ => .request c f frame

/-- Every command completes and does one of these things. -/
theorem exec_does (c : Instr) (s : State) : ∃ t, exec c s = .next t ∧ Does s c t := by
  cases c
  case sample d value beyond => exact ⟨_, rfl, .ofPart fun _ => .sample d value beyond⟩
  case settleExpiry d =>
    exact ⟨_, rfl, .ofPart fun h => have ⟨a, b, e⟩ := timerOver_iff.mp h; .settle d a b e⟩
  case provingExpiry d =>
    exact ⟨_, rfl, .ofPart fun h => have ⟨a, b, e⟩ := timerOver_iff.mp h; .proving d a b e⟩
  case backoffExpiry d =>
    exact ⟨_, rfl, .ofPart (effect := fun s => s.setDistrict d (backoffOver (s.district d))) fun h =>
      have ⟨a, b, e⟩ := timerOver_iff.mp h; .backoff d a b e⟩
  case intervalExpiry => exact ⟨_, rfl, .ofPart fun _ => .interval⟩
  case beatInputEdge => exact ⟨_, rfl, .ofPart fun _ => .beatInput⟩
  case pulseExpiry =>
    exact ⟨_, rfl, .ofPart (effect := fun s => s.setBeats { s.beats with pulseTimer := none })
      fun _ => .pulse⟩
  case feedFaultEdge f level =>
    by_cases edge : s.pins.faultInput[f.val] = level
    · exact ⟨_, congrArg Host.Outcome.next (if_pos edge), .nothing _⟩
    · rcases hs : s.held with _ | _
      · exact ⟨_, exec_feedFaultEdge hs edge, .part _ _ hs (.faultEdge f level edge)⟩
      · have held : (setFaultPin f level s).held = true := hs
        exact ⟨_, congrArg Host.Outcome.next ((if_neg edge).trans (whenTaken_held held)),
          .heldEdge f level hs⟩
  case resumeExpiry f =>
    exact ⟨_, rfl, .ofPart fun h => .resume f (beq_iff_eq.mp (Bool.and_eq_true_iff.mp h).1)⟩
  case receiveByte b stop => exact ⟨_, rfl, .ofLink fun _ => .byte b stop⟩
  case gapExpiry =>
    exact ⟨_, rfl, .ofLink (effect := fun s => discard .gap (hunt s)) fun h =>
      .gap (bne_iff_ne.mp (Bool.and_eq_true_iff.mp h).1)⟩
  case transmissionEnd => exact ⟨_, rfl, .ofLink fun h => .sent _ h (.inl rfl)⟩
  case softReset =>
    exact ⟨_, rfl, .ofLink fun h => have ⟨a, b⟩ := Bool.and_eq_true_iff.mp h; .sent _ a (.inr ⟨rfl, b⟩)⟩
  case hardReset =>
    by_cases low : s.pins.resetInput = .low
    · exact ⟨_, congrArg Host.Outcome.next (if_pos low), .nothing _⟩
    · exact ⟨_, congrArg Host.Outcome.next (if_neg low), .hardReset⟩
  case resetEnd strap =>
    rcases low : s.pins.resetInput with _ | _
    · exact ⟨_, congrArg Host.Outcome.next (if_neg (by simp [low])), .resetEnd strap low⟩
    · exact ⟨_, congrArg Host.Outcome.next (if_pos low), .nothing _⟩
  case powerUp strap =>
    by_cases up : s.pins.supplyUp = true
    · exact ⟨_, congrArg Host.Outcome.next (if_pos up), .nothing _⟩
    · exact ⟨_, congrArg Host.Outcome.next (if_neg up), .powerUp strap (by simpa using up)⟩
  case lossOfSupply => exact ⟨_, rfl, .lossOfSupply⟩
  all_goals exact ⟨_, rfl, .ofRequest rfl⟩

theorem does_of_exec (h : exec c s = .next t) : Does s c t := by
  obtain ⟨u, hu, does⟩ := exec_does c s
  rw [hu, Host.Outcome.next.injEq] at h
  exact h ▸ does

/-! ### What no event moves -/

/-- The model's own fields, the waiting commands and the input lines stand. -/
structure KeepsOutside (s t : State) : Prop where
  now : t.now = s.now
  choices : t.choices = s.choices
  pending : t.pending = s.pending
  pins : t.pins = s.pins

theorem KeepsOutside.refl (s : State) : KeepsOutside s s := ⟨rfl, rfl, rfl, rfl⟩

theorem KeepsOutside.trans (h : KeepsOutside s t) (k : KeepsOutside t u) : KeepsOutside s u :=
  ⟨k.now.trans h.now, k.choices.trans h.choices, k.pending.trans h.pending, k.pins.trans h.pins⟩

theorem KeepsOutside.held (h : KeepsOutside s t) : t.held = s.held := by
  rw [State.held, State.held, h.pins]

theorem KeepsOutside.surroundings (h : KeepsOutside s t) : SameSurroundings s t :=
  ⟨h.now, h.choices, h.pending⟩

theorem BeatKeeps.outside (h : BeatKeeps s t) : KeepsOutside s t := ⟨h.now, h.choices, h.pending, h.pins⟩

/-- What the Link Interface does leaves every other block but the Notice Queue and the line records. -/
structure LinkAlone (s t : State) : Prop where
  districts : t.districts = s.districts
  nextIncident : t.nextIncident = s.nextIncident
  incidentWrap : t.incidentWrap = s.incidentWrap
  feeds : t.feeds = s.feeds
  rotation : t.rotation = s.rotation
  groupModes : t.groupModes = s.groupModes
  beats : t.beats = s.beats
  bank : t.bank = s.bank
  outside : KeepsOutside s t

theorem LinkAlone.refl (s : State) : LinkAlone s s := ⟨rfl, rfl, rfl, rfl, rfl, rfl, rfl, rfl, .refl s⟩

theorem LinkAlone.trans (h : LinkAlone s t) (k : LinkAlone t u) : LinkAlone s u where
  districts := k.districts.trans h.districts
  nextIncident := k.nextIncident.trans h.nextIncident
  incidentWrap := k.incidentWrap.trans h.incidentWrap
  feeds := k.feeds.trans h.feeds
  rotation := k.rotation.trans h.rotation
  groupModes := k.groupModes.trans h.groupModes
  beats := k.beats.trans h.beats
  bank := k.bank.trans h.bank
  outside := h.outside.trans k.outside

theorem LinkAlone.district (h : LinkAlone s t) (d : DistrictNo) : t.district d = s.district d := by
  rw [State.district, State.district]
  simp only [h.districts]

theorem LinkAlone.feed (h : LinkAlone s t) (f : FeedNo) : t.feed f = s.feed f := by
  rw [State.feed, State.feed]
  simp only [h.feeds]

theorem setLink_alone (l : Link) : LinkAlone s (s.setLink l) :=
  ⟨rfl, rfl, rfl, rfl, rfl, rfl, rfl, rfl, rfl, rfl, rfl, rfl⟩

theorem sendReply_alone (s : State) : LinkAlone s (sendReply s) := by
  unfold sendReply
  split
  · exact setLink_alone _
  · exact .refl s

theorem chooseNext_alone (s : State) : LinkAlone s (chooseNext s) := by
  rw [chooseNext_eq]
  exact ⟨rfl, rfl, rfl, rfl, rfl, rfl, rfl, rfl, rfl, rfl, rfl, rfl⟩

theorem refreshLines_alone (s : State) : LinkAlone s (refreshLines s) :=
  ⟨rfl, rfl, rfl, rfl, rfl, rfl, rfl, rfl, rfl, rfl, rfl, rfl⟩

theorem closeEvent_alone (s : State) : LinkAlone s (closeEvent s) :=
  (chooseNext_alone s).trans (refreshLines_alone _)

theorem discard_alone (cause : DiscardCause) : LinkAlone s (discard cause s) := setLink_alone _

theorem hunt_alone (s : State) : LinkAlone s (hunt s) := setLink_alone _

theorem deliver_alone (f : Frame) (s : State) : LinkAlone s (deliver f s) := by
  unfold deliver
  split
  · exact setLink_alone _
  · exact discard_alone _

theorem completeFrame_alone (n : Nat) (stored : List Byte) : LinkAlone s (completeFrame n stored s) := by
  unfold completeFrame
  split
  · exact (hunt_alone s).trans (deliver_alone _ _)
  · exact (hunt_alone s).trans (discard_alone _)

theorem receive_alone (b : Byte) (s : State) : LinkAlone s (receive b s) := by
  unfold receive
  split <;> split
  · exact setLink_alone _
  · exact discard_alone _
  · exact setLink_alone _
  · exact (hunt_alone s).trans (discard_alone _)
  · exact completeFrame_alone _ _
  · exact setLink_alone _

theorem queueReply_alone (r : Reply) (s : State) : LinkAlone s (queueReply r s) := setLink_alone _

/-! ### Answers and requests -/

theorem takeLineLevel_outside (f : FeedNo) (level : LineLevel) (s : State) :
    KeepsOutside s (takeLineLevel f level s) := by
  unfold takeLineLevel
  dsimp only
  split <;> constructor <;> simp [assertFault, releaseFault]

theorem configureFeed_outside (allowance width delay : Nat) (fault : FaultLevel) :
    KeepsOutside s (configureFeed f allowance width fault delay s) := by
  unfold configureFeed
  dsimp only
  split
  · exact ⟨rfl, rfl, rfl, rfl⟩
  · refine KeepsOutside.trans ?_ (takeLineLevel_outside _ _ _)
    exact ⟨rfl, rfl, rfl, rfl⟩

theorem produceBeat_outside (s : State) : KeepsOutside s (produceBeat s) := by
  unfold produceBeat
  refine KeepsOutside.trans ?_ (takeBeat_keeps _).outside
  exact ⟨rfl, rfl, rfl, rfl⟩

/-- No owner's answer moves the clock, the queue or a line. -/
theorem answerRequest_outside (k : RequestKind) (body : List Byte) (s : State) :
    KeepsOutside s (answerRequest k body s).state := by
  cases k
  case singleBeat => exact produceBeat_outside s
  case configureFeed =>
    simp only [answerRequest, answerConfigureFeed]
    split
    · split
      · exact .refl s
      · exact configureFeed_outside ..
    · exact .refl s
  all_goals
    simp only [answerRequest, answerIdentify, answerConfigureDistrict, answerReadDistrict, answerReadFeed,
      answerConfigureGroup, answerConfigureBeat, answerOn, answerOff, answerAllOff, answerClear, answerHold,
      answerRelease, answerSetPolarity, answerReadSummary, answerReadCounters, answerReadAndClearCounters,
      answerCounterRead, answerConfigureCounters, answerConfigureStatusLine, answerConfigureNotices,
      answerSetIncidentWrap, answerLinkStatus, answerReset, refuse]
    repeat' split
    all_goals constructor <;> simp [turnOff, changeRun]

theorem answer_outside (f : Frame) (s : State) : KeepsOutside s (answer f s).state := by
  unfold answer
  split
  · exact .refl s
  · split
    · exact .refl s
    · exact answerRequest_outside _ _ _

theorem takeFrame_outside (f : Frame) (s : State) : KeepsOutside s (takeFrame f s) :=
  (answer_outside f s).trans (queueReply_alone _ _).outside

/-- What holds before the requests are taken, and is kept by a reply that begins on the line and by the taking
of a frame that the receive buffer holds, holds after them. -/
theorem takeRequests_induction (P : State → Prop) (send : ∀ s, P s → P (sendReply s))
    (take : ∀ s f rest, s.link.receiveBuffer = f :: rest → canTake s = true → P s →
      P (takeFrame f (s.setLink { s.link with receiveBuffer := rest })))
    (n : Nat) (h : P s) : P (takeRequests n s) := by
  induction n generalizing s with
  | zero => exact send s h
  | succ n ih =>
    unfold takeRequests
    split
    · next can =>
      refine ih ?_
      unfold takeOldest
      split
      · exact send s h
      · next f rest buffer => exact take _ f rest buffer can (send s h)
    · exact send s h

theorem takeRequests_outside (n : Nat) (s : State) : KeepsOutside s (takeRequests n s) :=
  takeRequests_induction (KeepsOutside s) (fun t h => h.trans (sendReply_alone t).outside)
    (fun _ f _ _ _ h => (h.trans (setLink_alone _).outside).trans (takeFrame_outside f _)) n (.refl s)

theorem closeLinkEvent_outside (s : State) : KeepsOutside s (closeLinkEvent s) :=
  (takeRequests_outside _ s).trans ((chooseNext_alone _).trans (refreshLines_alone _)).outside

/-! ### Every command -/

/-- What no event outside the Link Interface moves. -/
structure PartLeaves (s u : State) : Prop where
  link : u.link = s.link
  held : u.held = s.held
  surroundings : SameSurroundings s u

theorem PartLeaves.refl (s : State) : PartLeaves s s := ⟨rfl, rfl, rfl, rfl, rfl⟩

theorem KeepsOutside.leaves (h : KeepsOutside s u) (link : u.link = s.link) : PartLeaves s u :=
  ⟨link, h.held, h.surroundings⟩

theorem takeSample_leaves (d : DistrictNo) (value : Nat) (beyond : Bool) (s : State) :
    PartLeaves s (takeSample d value beyond s) := by
  unfold takeSample
  dsimp only
  split
  · split
    · exact ⟨rfl, rfl, rfl, rfl, rfl⟩
    · refine ⟨?_, ?_, ?_, ?_, ?_⟩ <;> simp [flipDistrict]
    · rw [tripDistrict_eq]
      exact ⟨rfl, rfl, rfl, rfl, rfl⟩
  · exact ⟨rfl, rfl, rfl, rfl, rfl⟩

theorem partEvent_leaves (h : PartEvent s c u) : PartLeaves s u := by
  cases h with
  | sample d value beyond => exact takeSample_leaves d _ beyond s
  | settle d =>
    by_cases time : (s.district d).config.provingTime = 0
    · rw [settleDistrict_energized time]
      exact ⟨rfl, rfl, rfl, rfl, rfl⟩
    · rw [settleDistrict_proving time]
      exact ⟨rfl, rfl, rfl, rfl, rfl⟩
  | proving d =>
    rw [proveDistrict_eq]
    exact ⟨rfl, rfl, rfl, rfl, rfl⟩
  | backoff d => exact ⟨rfl, rfl, rfl, rfl, rfl⟩
  | interval => exact (produceBeat_outside s).leaves (produceBeat_link s)
  | beatInput => exact (produceBeat_outside s).leaves (produceBeat_link s)
  | pulse => exact ⟨rfl, rfl, rfl, rfl, rfl⟩
  | faultEdge f level =>
    obtain ⟨link, held, same⟩ := (takeLineLevel_outside f (readFault (s.feed f).faultLevel level)
      (setFaultPin f level s)).leaves (takeLineLevel_link _ f _)
    exact ⟨link, held, same⟩
  | resume f => refine ⟨?_, ?_, ?_, ?_, ?_⟩ <;> simp [resumeFeed]

theorem endTransmission_outside (s : State) : KeepsOutside s (endTransmission s) := by
  unfold endTransmission
  dsimp only
  split
  · split <;> exact ⟨rfl, rfl, rfl, rfl⟩
  · exact ⟨rfl, rfl, rfl, rfl⟩

theorem linkEvent_outside (h : LinkEvent s c u) : KeepsOutside s u := by
  cases h with
  | request f => exact (deliver_alone _ s).outside
  | byte b => exact (receive_alone b s).outside
  | gap => exact ((hunt_alone s).trans (discard_alone _)).outside
  | sent => exact endTransmission_outside s

theorem does_surroundings (h : Does s c t) : SameSurroundings s t := by
  cases h with
  | nothing => exact ⟨rfl, rfl, rfl⟩
  | part _ u free event =>
    obtain ⟨now, choices, pending⟩ := (partEvent_leaves event).surroundings
    have closed := (closeEvent_alone u).outside
    exact ⟨closed.now.trans now, closed.choices.trans choices, closed.pending.trans pending⟩
  | link _ u free event =>
    exact ((linkEvent_outside event).trans (closeLinkEvent_outside u)).surroundings
  | heldEdge => exact ⟨rfl, rfl, rfl⟩
  | hardReset => exact ⟨rfl, rfl, rfl⟩
  | resetEnd strap =>
    unfold releaseReset
    dsimp only
    split <;> exact ⟨rfl, rfl, rfl⟩
  | powerUp strap =>
    unfold completePowerUp
    dsimp only
    split <;> exact ⟨rfl, rfl, rfl⟩
  | lossOfSupply => exact ⟨rfl, rfl, rfl⟩

/-- Settles O3. -/
theorem commandsLeaveQueueAndClock : Obligations.CommandsLeaveQueueAndClock := by
  intro c s
  obtain ⟨t, ht, does⟩ := exec_does c s
  obtain ⟨now, choices, pending⟩ := does_surroundings does
  exact ⟨t, ht, pending, now, choices⟩

/-! ### The hard-reset condition -/

/-- A part held at its hard-reset values drives every output low, and its transmitter is free (R175). -/
theorem outputs_of_held (held : s.held = true) (atReset : HeldAtReset s) (levels : LevelsFollow s) :
    (∀ d, switchDrive s d = .low ∧ polarityOutput s d = .low) ∧
      (∀ n, statusOutput s n = .low) ∧ transmitLine s = .high := by
  refine ⟨fun d => ?_, fun n => ?_, ?_⟩
  · simp [switchDrive, polarityOutput, held, levelOf]
  · rw [statusOutput, levels n, lineLevel, if_pos held]
  · have free : s.link.sending = none := by rw [← atReset held]; rfl
    rw [transmitLine, free]

/-- Settles O4. -/
theorem heldPartTakesNothing : Obligations.HeldPartTakesNothing := by
  intro s held
  refine ⟨fun c notEnd notPower notReset notLoss notEdge => ?_, fun f level => ?_, fun inv => ?_⟩
  · obtain ⟨t, ht, does⟩ := exec_does c s
    rw [ht]
    cases does with
    | nothing => rfl
    | part _ u free => rw [held] at free; cases free
    | link _ u free => rw [held] at free; cases free
    | heldEdge f level => exact absurd rfl (notEdge f level)
    | hardReset => exact absurd rfl notReset
    | resetEnd strap => exact absurd rfl (notEnd strap)
    | powerUp strap => exact absurd rfl (notPower strap)
    | lossOfSupply => exact absurd rfl notLoss
  · by_cases edge : s.pins.faultInput[f.val] = level
    · refine congrArg Host.Outcome.next ((if_pos edge).trans ?_)
      simp [← edge]
    · have still : (setFaultPin f level s).held = true := held
      exact congrArg Host.Outcome.next ((if_neg edge).trans (whenTaken_held still))
  · obtain ⟨_, _, _, _, _, _, _, _, _, levels, _, _, _, _, atReset⟩ := inv
    exact outputs_of_held held atReset levels

/-! ### Time -/

/-- Settles O2. -/
theorem idleBringsExpiryOrTick : Obligations.IdleBringsExpiryOrTick := by
  intro s idle
  have steps : step s = .next (passTime s) := by rw [step, idle]
  refine ⟨fun held => ?_, fun free ⟨c, due⟩ => ?_, fun free none => ?_⟩
  · rw [steps, passTime, if_pos held]
  · rcases h : nextDue s.choices (dueCommands s) with _ | c'
    · rw [← mem_dueCommands, (nextDue_none _ _).mp h] at due
      cases due
    · refine ⟨c', (mem_dueCommands s c').mp (nextDue_mem _ _ h), ?_⟩
      rw [steps, passTime, if_neg (by simp [free]), h, idle]
      rfl
  · have nothing : dueCommands s = [] :=
      List.eq_nil_iff_forall_not_mem.mpr fun c hc => none c ((mem_dueCommands s c).mp hc)
    have h : nextDue s.choices (dueCommands s) = .none := (nextDue_none _ _).mpr nothing
    refine ⟨{ runTimers s with now := s.now + 1 }, ?_, rfl, rfl, idle, fun d => ?_, fun f => ?_, rfl, ?_,
      rfl, rfl, rfl, rfl, rfl, rfl, rfl, rfl⟩
    · rw [steps, passTime, if_neg (by simp [free]), h]
    · exact State.district_mapDistricts s (fun _ x => districtLater x) d
    · exact State.feed_mapFeeds (s.mapDistricts fun _ x => districtLater x)
        (fun _ x => { x with resumeTimer := countDown x.resumeTimer }) f
    · refine congrArg (fun g => ({ s.link with
        gapTimer := g, sending := s.link.sending.map fun x => { x with left := x.left - 1 } } : Link)) ?_
      generalize s.link.gapTimer = g
      rcases g with _ | (_ | n) | n <;> rfl

end Sys2Proof.Machine
end

section
/-! The Link Interface step by step: what closes without taking a request, the receiver byte by byte and frame
by frame, the end of a transmission, and what the transmit line carries. -/

namespace Sys2Proof.Machine

variable {s t u : State} {f : Frame} {b : Byte} {n : Nat} {stored : List Byte}

/-! ### Closing without a request -/

theorem sendReply_sending {x : Transmission} (h : s.link.sending = some x) : sendReply s = s := by
  unfold sendReply
  split
  · next free _ => rw [h] at free; cases free
  · rfl

/-- A reply that begins on the line leaves the receive buffer and the bar of a Reset request. -/
theorem sendReply_receiveBuffer (s : State) :
    (sendReply s).link.receiveBuffer = s.link.receiveBuffer ∧
      (sendReply s).link.resetPending = s.link.resetPending := by
  unfold sendReply
  split <;> exact ⟨rfl, rfl⟩

/-- With nothing to take, only the reply that begins on the line is left to do. -/
theorem takeRequests_of_not (n : Nat) (h : canTake (sendReply s) = false) :
    takeRequests n s = sendReply s := by
  cases n with
  | zero => rfl
  | succ n => simp [takeRequests, h]

/-- An event of the Link Interface with nothing to take closes as any other. -/
theorem closeLinkEvent_of_not (h : canTake (sendReply s) = false) : closeLinkEvent s = closeEvent s := by
  rw [closeLinkEvent, takeRequests_of_not _ h, closeEvent, chooseNext, chooseNext, sendReply_idem]

theorem canTake_of_empty (h : s.link.receiveBuffer = [] ∨ s.link.resetPending = true) :
    canTake (sendReply s) = false := by
  obtain ⟨buffer, pending⟩ := sendReply_receiveBuffer s
  rcases h with h | h <;> simp [canTake, buffer, pending, h]

/-- Nothing that could be taken waits in a settled part. -/
theorem canTake_of_settled (h : LinkSettled s) : canTake s = false := by
  rcases h.2 with h | h | h
  · simp [canTake, h]
  · have full : ¬ s.link.replyQueue.length < Config.replyCapacity := by
      simpa [Config.replyCapacity] using h
    simp [canTake, full]
  · simp [canTake, h]

/-- The transmitter of a settled part has no choice to make. -/
theorem chooseNext_settled (h : LinkSettled s) : chooseNext s = s := by
  have still : afterChoice s.link s.notices = (s.link, s.notices) := by
    unfold afterChoice
    split
    · rfl
    · next free queue => rw [(h.1 free).1] at queue; cases queue
    · next free _ entries =>
      rcases (h.1 free).2 with none | off
      · rw [none] at entries; cases entries
      · rw [off]; rfl
    · rfl
  rw [chooseNext_eq, still]

/-- A settled part whose outputs follow is left as it is where an event closes. -/
theorem closeEvent_settled (settled : LinkSettled s) (levels : LevelsFollow s) : closeEvent s = s := by
  rw [closeEvent, chooseNext_settled settled, refreshLines_of_levels s levels]

theorem closeLinkEvent_settled (settled : LinkSettled s) (levels : LevelsFollow s) :
    closeLinkEvent s = s := by
  rw [closeLinkEvent_of_not, closeEvent_settled settled levels]
  rw [sendReply_settled s settled, canTake_of_settled settled]

/-- No status source looks at the Link Interface. -/
theorem levelsFollow_setLink (h : LevelsFollow s) (l : Link) : LevelsFollow (s.setLink l) := by
  intro n
  refine (h n).trans ?_
  show lineLevel s (s.line n).source _ = lineLevel (s.setLink l) (s.line n).source _
  generalize (s.line n).source = source
  cases source <;> rfl

/-- What the receiver, the gap timer and the discards stand at is nothing that could be sent or taken. -/
theorem closeLinkEvent_receiver (settled : LinkSettled s) (levels : LevelsFollow s) {l : Link}
    (sending : l.sending = s.link.sending) (queue : l.replyQueue = s.link.replyQueue)
    (waiting : l.receiveBuffer = s.link.receiveBuffer) (pending : l.resetPending = s.link.resetPending) :
    closeLinkEvent (s.setLink l) = s.setLink l := by
  refine closeLinkEvent_settled ?_ (levelsFollow_setLink levels l)
  simpa [LinkSettled, sending, queue, waiting, pending] using settled

/-- Settles O10. -/
theorem requestWaitsInBuffer : Obligations.RequestWaitsInBuffer := by
  intro s i f frame free settled levels blocked
  have closes : closeLinkEvent (deliver f s) = deliver f s := by
    have stays : LinkSettled (deliver f s) ∧ LevelsFollow (deliver f s) := by
      unfold deliver discard
      split
      · exact ⟨⟨settled.1, .inr blocked⟩, levelsFollow_setLink levels _⟩
      · exact ⟨settled, levelsFollow_setLink levels _⟩
    exact closeLinkEvent_settled stays.1 stays.2
  have steps : exec i s = .next (deliver f s) := by
    rw [exec_request frame, requestArrives, whenTaken_of free rfl, closes]
  refine ⟨fun room => ?_, fun full => ?_⟩
  · rw [steps, deliver, if_pos (c := _ < Config.receiveCapacity) room]
    rfl
  · rw [steps, deliver, if_neg (c := _ < Config.receiveCapacity) (not_lt.mpr full)]
    rfl

/-! ### The receiver -/

theorem exec_receiveByte (free : s.held = false) (b : Byte) (stop : Level) :
    exec (.receiveByte b stop) s = .next (closeLinkEvent (receive b s)) :=
  congrArg Host.Outcome.next (whenTaken_of free rfl)

/-- A byte after which the receiver goes on inside the frame. -/
theorem exec_receiveByte_awaits (free : s.held = false) (settled : LinkSettled s) (levels : LevelsFollow s)
    {r : Receiver} (stop : Level) (h : receive b s = awaitMore r s) :
    exec (.receiveByte b stop) s = .next (awaitMore r s) := by
  rw [exec_receiveByte free, h]
  exact congrArg _ (closeLinkEvent_receiver settled levels rfl rfl rfl rfl)

theorem awaitMore_settled (settled : LinkSettled s) (r : Receiver) : LinkSettled (awaitMore r s) :=
  ⟨settled.1, settled.2⟩

theorem awaitMore_held (r : Receiver) : (awaitMore r s).held = s.held := rfl

theorem awaitMore_receiver (r : Receiver) : (awaitMore r s).link.receiver = r := rfl

/-- A byte of a frame after another (R137). -/
theorem exec_receiveByte_goesOn (free : s.held = false) (settled : LinkSettled s) (levels : LevelsFollow s)
    {r r' : Receiver} (stop : Level) (h : receive b (awaitMore r s) = awaitMore r' (awaitMore r s)) :
    exec (.receiveByte b stop) (awaitMore r s) = .next (awaitMore r' s) :=
  exec_receiveByte_awaits ((awaitMore_held r).trans free) (awaitMore_settled settled r)
    (levelsFollow_setLink levels _) stop h

/-- A discard inside a frame or of its whole. -/
theorem closeLinkEvent_discard_hunt (settled : LinkSettled s) (levels : LevelsFollow s)
    (cause : DiscardCause) : closeLinkEvent (discard cause (hunt s)) = discard cause (hunt s) :=
  closeLinkEvent_receiver settled levels rfl rfl rfl rfl

theorem receive_start (h : s.link.receiver = .hunting) :
    receive startByte s = awaitMore .awaitingLength s := by
  simp [receive, h]

theorem receive_noise (h : s.link.receiver = .hunting) (hb : b ≠ startByte) :
    receive b s = discard .noise s := by
  simp [receive, h, hb]

theorem receive_length (h : s.link.receiver = .awaitingLength) (low : 2 ≤ b.toNat) (high : b.toNat ≤ 62) :
    receive b s = awaitMore (.collecting b.toNat []) s := by
  simp [receive, h, low, high]

theorem receive_badLength (h : s.link.receiver = .awaitingLength) (bad : b.toNat < 2 ∨ 63 ≤ b.toNat) :
    receive b s = discard .length (hunt s) := by
  have illegal : ¬ (2 ≤ b.toNat ∧ b.toNat ≤ 62) := by omega
  simp only [receive, h, if_neg illegal]

theorem receive_collects (h : s.link.receiver = .collecting n stored) (room : stored.length < n) :
    receive b s = awaitMore (.collecting n (stored ++ [b])) s := by
  have short : ¬ n + 1 ≤ stored.length + 1 := by omega
  simp only [receive, h, if_neg short]

theorem receive_completes (h : s.link.receiver = .collecting n stored) (full : stored.length = n) :
    receive b s = completeFrame n (stored ++ [b]) s := by
  have whole : n + 1 ≤ stored.length + 1 := by omega
  simp only [receive, h, if_pos whole]

/-- The sum of a frame's check, as a sum of its bytes (R134). -/
theorem byteSum_eq (bytes : List Byte) : byteSum bytes = bytes.sum := by
  rw [byteSum, List.sum_eq_foldl]

/-- Settles O44. -/
theorem receiverSteps : Obligations.ReceiverSteps := by
  intro s b stop free settled levels l waits discards
  have takes := exec_receiveByte free b stop
  have gap : exec .gapExpiry s =
      .next (whenTaken (s.link.receiver != .hunting && gapOver s.link.gapTimer)
        (fun s => closeLinkEvent (discard .gap (hunt s))) s) := rfl
  refine ⟨?start, ?noise, ?length, ?badLength, ?collects, ?badCheck, ?gap, ?noGap⟩
  case start =>
    rintro hunting rfl
    exact exec_receiveByte_awaits free settled levels stop (receive_start hunting)
  case noise =>
    intro hunting stopped other
    have closes : closeLinkEvent (discard .noise s) = discard .noise s :=
      closeLinkEvent_receiver settled levels rfl rfl rfl rfl
    rw [takes, receive_noise hunting other, closes]
    simp only [discards, l, ← hunting, ← stopped]
    rfl
  case length =>
    intro awaiting low high
    exact exec_receiveByte_awaits free settled levels stop (receive_length awaiting low high)
  case badLength =>
    intro awaiting bad
    rw [takes, receive_badLength awaiting bad, closeLinkEvent_discard_hunt settled levels]
    rfl
  case collects =>
    intro n stored collecting room
    exact exec_receiveByte_awaits free settled levels stop (receive_collects collecting room)
  case badCheck =>
    intro n stored collecting full check
    have bad : byteSum (byteOf n :: (stored ++ [b])) ≠ 0 := by
      rw [byteSum_eq, List.sum_cons]
      exact check
    rw [takes, receive_completes collecting full, completeFrame, if_neg bad,
      closeLinkEvent_discard_hunt settled levels]
    rfl
  case gap =>
    intro (inside : s.link.receiver ≠ .hunting)
      (expired : s.link.gapTimer = .running 0 ∨ s.link.gapTimer = .awaitingEnd 0)
    rw [gap, whenTaken_of free (by simp [inside, (gapOver_iff _).mpr expired]),
      closeLinkEvent_discard_hunt settled levels]
    rfl
  case noGap =>
    intro h
    rw [gap, whenTaken_not]
    rcases h with (hunting : s.link.receiver = .hunting) | notOver
    · simp [hunting]
    · have running : gapOver s.link.gapTimer = false := by
        rw [← Bool.not_eq_true, gapOver_iff]
        tauto
      simp [running]

/-! ### A frame byte by byte -/

theorem runCommands_cons {c : Instr} (h : exec c s = .next t) (rest : List Instr) :
    runCommands (c :: rest) s = runCommands rest t := by
  rw [runCommands, h]

theorem runCommands_append (l m : List Instr) (h : runCommands l s = some t) :
    runCommands (l ++ m) s = runCommands m t := by
  induction l generalizing s with
  | nil => rw [runCommands, Option.some.injEq] at h; rw [List.nil_append, h]
  | cons c l ih =>
    obtain ⟨u, hu, _⟩ := exec_does c s
    rw [runCommands_cons hu] at h
    rw [List.cons_append, runCommands_cons hu, ih h]

/-- The bytes of a frame that are not its last are stored (R137, R138). -/
theorem runCommands_collects (free : s.held = false) (settled : LinkSettled s) (levels : LevelsFollow s)
    (stop : Byte → Level) (bytes : List Byte) (room : stored.length + bytes.length ≤ n) :
    runCommands (bytes.map fun b => .receiveByte b (stop b)) (awaitMore (.collecting n stored) s) =
      some (awaitMore (.collecting n (stored ++ bytes)) s) := by
  induction bytes generalizing stored with
  | nil => simp [runCommands]
  | cons b bytes ih =>
    have one : exec (.receiveByte b (stop b)) (awaitMore (.collecting n stored) s) =
        .next (awaitMore (.collecting n (stored ++ [b])) s) :=
      exec_receiveByte_goesOn free settled levels (stop b)
        (receive_collects (awaitMore_receiver _) (by simp at room; omega))
    rw [List.map_cons, runCommands_cons one, ih (by simp at room ⊢; omega)]
    simp

/-- The kind, tag and body of a frame are read back from its bytes (R134). -/
theorem frameOfStored_frameCore (f : Frame) (check : Byte) : frameOfStored (frameCore f ++ [check]) = f := by
  simp [frameOfStored, frameCore]

theorem lengthByte_toNat (h : f.body.length ≤ 60) : (lengthByte f).toNat = f.body.length + 2 := by
  simp [lengthByte]
  omega

/-- A part whose receiver hunts comes back to itself when a frame has ended. -/
theorem hunt_awaitMore (hunting : s.link.receiver = .hunting) (stopped : s.link.gapTimer = .stopped)
    (r : Receiver) : hunt (awaitMore r s) = s := by
  have same : s.link = { s.link with receiver := .hunting, gapTimer := .stopped } := by
    rw [← hunting, ← stopped]
  exact congrArg s.setLink same.symm

/-- Settles O43: the start and length bytes open the frame, the others are stored, and the check byte
delivers what the whole frame would have. -/
theorem frameReceivedByteByByte : Obligations.FrameReceivedByteByByte := by
  intro s i f stop frame fits free settled levels hunting stopped
  have length := lengthByte_toNat fits
  have afterStart : exec (.receiveByte startByte (stop startByte)) s =
      .next (awaitMore .awaitingLength s) :=
    exec_receiveByte_awaits free settled levels _ (receive_start hunting)
  have afterLength : exec (.receiveByte (lengthByte f) (stop (lengthByte f)))
      (awaitMore .awaitingLength s) = .next (awaitMore (.collecting (f.body.length + 2) []) s) := by
    rw [← length]
    exact exec_receiveByte_goesOn free settled levels _
      (receive_length (awaitMore_receiver _) (by omega) (by omega))
  have afterCore := runCommands_collects (n := f.body.length + 2) (stored := []) free settled levels stop
    (frameCore f) (by simp [frameCore])
  rw [List.nil_append] at afterCore
  have checks : byteSum (byteOf (f.body.length + 2) :: (frameCore f ++ [checkByte f])) = 0 :=
    Laws.frame_checks f
  have afterCheck : exec (.receiveByte (checkByte f) (stop (checkByte f)))
      (awaitMore (.collecting (f.body.length + 2) (frameCore f)) s) =
      .next (closeLinkEvent (deliver f s)) := by
    have completes : receive (checkByte f) (awaitMore (.collecting (f.body.length + 2) (frameCore f)) s) =
        completeFrame (f.body.length + 2) (frameCore f ++ [checkByte f])
          (awaitMore (.collecting (f.body.length + 2) (frameCore f)) s) :=
      receive_completes (awaitMore_receiver _) (by simp [frameCore])
    rw [exec_receiveByte ((awaitMore_held _).trans free), completes, completeFrame, if_pos checks,
      hunt_awaitMore hunting stopped, frameOfStored_frameCore]
  refine ⟨closeLinkEvent (deliver f s), ?_, ?_⟩
  · rw [frameBytes, List.map_cons, List.map_cons, List.map_append, runCommands_cons afterStart,
      runCommands_cons afterLength, runCommands_append _ _ afterCore, List.map_singleton,
      runCommands_cons afterCheck, runCommands]
  · rw [exec_request frame, requestArrives, whenTaken_of free rfl]

/-! ### The end of a transmission -/

theorem transmissionOver_iff : transmissionOver s = true ↔ ∃ x, s.link.sending = some x ∧ x.left = 0 := by
  unfold transmissionOver
  split
  · next x h => simp [h]
  · next h => simp [h]

/-- The end of a transmission that is no Reset reply's frees the transmitter (R144). -/
theorem endTransmission_plain {x : Transmission} (h : s.link.sending = some x) (plain : x.softReset = false) :
    endTransmission s = s.setLink { s.link with sending := none } := by
  rw [endTransmission, h]
  simp [plain]

/-- At the end of the Reset reply the soft reset is taken (R145). -/
theorem endTransmission_reset {x : Transmission} (h : s.link.sending = some x) (reset : x.softReset = true) :
    endTransmission s = softResetBlocks (s.setLink { s.link with sending := none }) := by
  rw [endTransmission, h]
  simp [reset]

/-- Settles O45. -/
theorem transmissionEndGoesOn : Obligations.TransmissionEndGoesOn := by
  intro s free
  refine ⟨fun notYet => ?_, fun x sending ended plain => ⟨fun nothing => ?_, ?_⟩⟩
  · refine congrArg Host.Outcome.next (whenTaken_not ?_)
    rw [← Bool.not_eq_true, transmissionOver_iff]
    rintro ⟨x, hx, ended⟩
    exact notYet x hx ended
  · have ended' := transmissionOver_iff.mpr ⟨x, sending, ended⟩
    refine ⟨_, congrArg Host.Outcome.next (whenTaken_of free ended'), ?_⟩
    have empty : canTake (sendReply (s.setLink { s.link with sending := none })) = false :=
      canTake_of_empty nothing
    rw [endTransmission_plain sending plain, closeLinkEvent_of_not empty]
    exact closes_closeEvent_self _
  · intro f more r rest buffer pending queue three v
    have ended' := transmissionOver_iff.mpr ⟨x, sending, ended⟩
    refine ⟨_, congrArg Host.Outcome.next (whenTaken_of free ended'), ?_⟩
    rw [endTransmission_plain sending plain]
    have begins : sendReply (s.setLink { s.link with sending := none }) =
        v.setLink { v.link with receiveBuffer := f :: more } := by
      rw [sendReply]
      simp only [State.setLink_link, queue, ← buffer]
      rfl
    have can : canTake (v.setLink { v.link with receiveBuffer := f :: more }) = true := by
      simp [canTake, v, three, pending, Config.replyCapacity]
    have takes : takeOldest (v.setLink { v.link with receiveBuffer := f :: more }) = takeFrame f v := rfl
    have keeps := answer_keeps v f
    have onLine : (takeFrame f v).link.sending = v.link.sending := keeps.sending
    have full : canTake (sendReply (takeFrame f v)) = false := by
      have four : (takeFrame f v).link.replyQueue.length = 4 := by
        simp [takeFrame, queueReply, keeps.replyQueue, v, three]
      rw [sendReply_sending onLine, canTake, four]
      simp [Config.replyCapacity]
    have closes : closeLinkEvent (s.setLink { s.link with sending := none }) =
        closeEvent (takeFrame f v) := by
      rw [closeLinkEvent, show Config.receiveCapacity = 3 + 1 from rfl, takeRequests, begins, if_pos can,
        takes, takeRequests_of_not 3 full, closeEvent, chooseNext, chooseNext, sendReply_idem]
    rw [closes]
    exact closes_closeEvent rfl rfl rfl rfl rfl rfl rfl rfl rfl rfl rfl rfl rfl rfl rfl

/-! ### The transmit line -/

theorem characterLevels_length (b : Byte) : (characterLevels b).length = 10 := by
  simp [characterLevels]

/-- The levels of one character: a low start bit, the data bits from the least significant on, a high stop bit
(R133). -/
theorem characterLevels_getElem? (b : Byte) {j : Nat} (h : j < 10) : (characterLevels b)[j]? =
    some (if j = 0 then .low else if j = 9 then .high
      else if b.getLsbD (j - 1) then .high else .low) := by
  interval_cases j <;> simp [characterLevels, List.range_succ]

/-- The characters of a frame follow one another, ten bit times each. -/
theorem flatMap_characterLevels (bytes : List Byte) {i j : Nat} (hi : i < bytes.length) (hj : j < 10) :
    (bytes.flatMap characterLevels)[10 * i + j]? = (characterLevels (bytes.getD i 0))[j]? := by
  induction bytes generalizing i with
  | nil => cases hi
  | cons b bytes ih =>
    have length := characterLevels_length b
    cases i with
    | zero =>
      rw [List.flatMap_cons, List.getElem?_append_left (by omega)]
      simp
    | succ i =>
      rw [List.flatMap_cons, List.getElem?_append_right (by omega), length,
        show 10 * (i + 1) + j - 10 = 10 * i + j by omega, ih (by simpa using hi)]
      simp

/-- The bit that stands on the line, from the time that the frame still takes. -/
theorem bitOnLine {len i j r bit left : Nat} (hi : i < len) (hj : j < 10) (hr : r < bit)
    (h : left = (10 * (len - i) - j) * bit - r) : (len * 10 * bit - left) / bit = 10 * i + j := by
  obtain ⟨k, rfl⟩ : ∃ k, len = i + 1 + k := ⟨len - (i + 1), by omega⟩
  have rest : 10 * (i + 1 + k - i) - j = 10 * k + (9 - j) + 1 := by omega
  have total : (i + 1 + k) * 10 * bit = (10 * k + (9 - j) + 1) * bit + (10 * i + j) * bit := by
    rw [← Nat.add_mul]
    congr 1
    omega
  have least : bit ≤ (10 * k + (9 - j) + 1) * bit := Nat.le_mul_of_pos_left _ (by omega)
  rw [rest] at h
  have gone : (i + 1 + k) * 10 * bit - left = bit * (10 * i + j) + r := by
    rw [total, h, Nat.mul_comm bit]
    omega
  rw [gone, Nat.mul_add_div (by omega), Nat.div_eq_of_lt hr, Nat.add_zero]

/-- Settles O46. -/
theorem lineCarriesTheFrame : Obligations.LineCarriesTheFrame := by
  refine ⟨⟨rfl, rfl⟩, fun rate bytes => Nat.mul_assoc .., fun s => ⟨fun free => ?_, ?_⟩, ?_⟩
  · rw [transmitLine, free]
  · intro x i j r sending hi hj hr left
    have place := bitOnLine hi hj hr left
    rw [transmitLine, sending]
    simp only [lineTicks, place]
    rw [List.getD_eq_getElem?_getD, flatMap_characterLevels _ hi hj, characterLevels_getElem? _ hj]
    rfl
  · intro lost d f i n v beyond loss header low high district
    refine ⟨?_, ?_, rfl, rfl, ?_, ?_⟩
    · rintro cause entered code (⟨rfl, rfl⟩ | ⟨rfl, rfl⟩) <;> cases cause <;> rfl
    · intro p; cases p <;> rfl
    · rintro state code (⟨rfl, rfl⟩ | ⟨rfl, rfl⟩) <;> rfl
    · intro mark; cases mark <;> rfl

end Sys2Proof.Machine
end

section
/-! The resets: the hard-reset values that a falling reset input and a loss of supply give every block, the
end of a hard reset, and the soft reset at the end of the Reset reply. -/

namespace Sys2Proof.Machine

variable {s t : State}

/-! ### Hard reset -/

/-- Every block stands at its hard-reset values (R174). -/
theorem atHardReset_blocks (rate : LinkRate) (s : State) : AtHardReset (hardResetBlocks rate s) := by
  refine ⟨fun d => ?_, rfl, rfl, fun f => ?_, rfl, fun g => ?_, rfl, rfl, rfl, rfl, rfl, fun i => ?_, rfl,
    rfl, fun n => ?_, rfl, rfl, rfl, rfl, rfl, rfl, rfl, rfl, rfl⟩
  · exact tabulate_getElem (fun _ : DistrictNo => District.initial) d.val d.isLt
  · have feed : (hardResetBlocks rate s).feed f = Feed.initial :=
      tabulate_getElem (fun _ : FeedNo => Feed.initial) f.val f.isLt
    rw [feed]
    exact ⟨rfl, rfl, rfl, rfl, rfl, rfl⟩
  · exact tabulate_getElem (fun _ : GroupNo => GroupMode.asAvailable) g.val g.isLt
  · exact tabulate_getElem (fun _ : CounterIx => Counter.initial) i.val i.isLt
  · exact tabulate_getElem (fun _ : LineNo => StatusLine.initial) n.val n.isLt

/-- Settles O48. -/
theorem hardResetAndLossOfSupply : Obligations.HardResetAndLossOfSupply := by
  intro s
  refine ⟨fun high => ⟨startHardReset s, congrArg Host.Outcome.next (if_neg (by simp [high])),
      atHardReset_blocks _ _, ⟨rfl, rfl, rfl⟩, rfl, rfl, rfl, ?_⟩,
    fun low => congrArg Host.Outcome.next (if_pos low),
    loseSupply s, rfl, atHardReset_blocks _ _, ⟨rfl, rfl, rfl⟩, rfl, rfl, rfl⟩
  have held : (startHardReset s).held = (!s.pins.supplyUp || Level.low == .low) := rfl
  rw [held]
  simp

/-! ### The end of a hard reset -/

/-- The moment a hard reset ends only decides what the lines decide, and starts the interval timer (R176). -/
theorem atHardReset_end (strap : LinkRate) (h : AtHardReset s) : AtHardReset (endHardReset strap s) := by
  obtain ⟨districts, next, wrap, feeds, rotation, modes, mode, interval, spacing, last, pulse, counters,
    bankMode, enable, lines, notices, receiver, gap, buffer, queue, sending, tally, cause, pending⟩ := h
  refine ⟨districts, next, wrap, fun f => ?_, rotation, modes, mode, interval, spacing, last, pulse,
    counters, bankMode, enable, lines, notices, rfl, gap, buffer, queue, sending, tally, cause, pending⟩
  have feed : (endHardReset strap s).feed f =
      feedFromLine .activeLow s.pins.faultInput[f.val] (s.feed f) :=
    State.feed_mapFeeds s (fun f x => feedFromLine .activeLow s.pins.faultInput[f.val] x) f
  rw [feed]
  exact feeds f

/-- Each feed takes its line level and state from its fault input under active-low (R84). -/
theorem endHardReset_feed (strap : LinkRate) (f : FeedNo) :
    ((endHardReset strap s).feed f).lineLevel =
        (if s.pins.faultInput[f.val] = .low then .asserted else .released) ∧
      ((endHardReset strap s).feed f).state =
        if s.pins.faultInput[f.val] = .low then .suspended else .normal := by
  have feed : (endHardReset strap s).feed f =
      feedFromLine .activeLow s.pins.faultInput[f.val] (s.feed f) :=
    State.feed_mapFeeds s (fun f x => feedFromLine .activeLow s.pins.faultInput[f.val] x) f
  rw [feed]
  rcases h : s.pins.faultInput[f.val] with _ | _ <;> exact ⟨rfl, rfl⟩

/-- A part held at its hard-reset values keeps them while its lines change. -/
theorem atHardReset_of_held (held : s.held = true) (atReset : HeldAtReset s) : AtHardReset s :=
  atReset held ▸ atHardReset_blocks _ _

/-- Settles O49. -/
theorem resetEndAndPowerUp : Obligations.ResetEndAndPowerUp := by
  intro s strap atReset ended released supplied
  have ends : ∀ pins : Pins, s.held = true → pins.faultInput = s.pins.faultInput →
      pins.resetInput = .high → pins.supplyUp = true →
      ended pins (endHardReset strap { s with pins := pins }) := by
    intro pins held same high up
    have blocks : AtHardReset s := atHardReset_of_held held atReset
    have interval : s.beats.interval = 200 := by
      obtain ⟨_, _, _, _, _, _, _, interval, _⟩ := blocks
      exact interval
    refine ⟨atHardReset_end strap (s := { s with pins := pins }) blocks, ⟨rfl, rfl, rfl⟩, rfl, ?_, rfl, ?_,
      fun f => ?_⟩
    · have heldNow : (endHardReset strap { s with pins := pins }).held =
          (!pins.supplyUp || pins.resetInput == .low) := rfl
      simp [heldNow, high, up]
    · have timer : (endHardReset strap { s with pins := pins }).beats.intervalTimer =
          some (msTicks s.beats.interval) := rfl
      rw [timer, interval]
      rfl
    · have lines := endHardReset_feed (s := { s with pins := pins }) strap f
      simp only [same] at lines
      exact lines
  have heldLow : s.pins.resetInput = .low → s.held = true := fun low => by simp [State.held, low]
  have heldDown : s.pins.supplyUp = false → s.held = true := fun down => by simp [State.held, down]
  refine ⟨fun low up => ?_, fun low down => ?_, fun high => congrArg Host.Outcome.next (if_pos high),
    fun down high => ?_, fun down low => ?_, fun up => congrArg Host.Outcome.next (if_pos up)⟩
  · exact ⟨_, congrArg Host.Outcome.next ((if_neg (by simp [low])).trans (if_pos up)),
      ends released (heldLow low) rfl rfl up⟩
  · exact congrArg Host.Outcome.next ((if_neg (by simp [low])).trans (if_neg (by simp [down])))
  · exact ⟨_, congrArg Host.Outcome.next ((if_neg (by simp [down])).trans (if_neg (by simp [high]))),
      ends supplied (heldDown down) rfl high rfl⟩
  · exact congrArg Host.Outcome.next ((if_neg (by simp [down])).trans (if_pos low))

/-! ### The soft reset -/

/-- A feed's soft-reset values, as the statement gives them (R84). -/
theorem softResetFeed_eq (pin : Level) (x : Feed) : softResetFeed pin x =
    { x with
      heldSum := 0, resumeTimer := none, lineLevel := readFault x.faultLevel pin
      state := if readFault x.faultLevel pin = .asserted then .suspended else .normal } := by
  unfold softResetFeed feedFromLine
  rcases readFault x.faultLevel pin with _ | _ <;> rfl

/-- Settles O47: with the receive buffer cleared there is nothing to take at the end of the Reset reply. -/
theorem softResetAtReplyEnd : Obligations.SoftResetAtReplyEnd := by
  intro s free
  refine ⟨fun x sending ended reset => ?_, fun h => congrArg Host.Outcome.next (whenTaken_not ?_)⟩
  · intro u
    have resets : endTransmission s = u := by
      rw [endTransmission_reset sending reset]
      unfold softResetBlocks
      simp only [softResetFeed_eq]
      rfl
    have stopSent := transmissionOver_iff.mpr ⟨x, sending, ended⟩
    have resetReply : sendingResetReply s = true := by rw [sendingResetReply, sending]; exact reset
    have empty : canTake (sendReply u) = false := canTake_of_empty (.inl rfl)
    have closes : closeLinkEvent (endTransmission s) = closeEvent u := by
      rw [resets, closeLinkEvent_of_not empty]
    refine ⟨⟨closeEvent u, ?_, closes_closeEvent_self u⟩, ⟨closeEvent u, ?_, closes_closeEvent_self u⟩⟩
    · exact congrArg Host.Outcome.next ((whenTaken_of free (by simp [stopSent, resetReply])).trans closes)
    · exact congrArg Host.Outcome.next ((whenTaken_of free stopSent).trans closes)
  · rw [← Bool.not_eq_true, Bool.and_eq_true, transmissionOver_iff]
    rintro ⟨⟨x, sending, ended⟩, reset⟩
    rw [sendingResetReply, sending] at reset
    rcases h x sending with running | plain
    · exact running ended
    · simp [plain] at reset

end Sys2Proof.Machine
end

section
/-! The requests: what each owner answers, from the bytes of the body to the reply and the state after it. -/

namespace Sys2Proof.Machine

variable {s u : State} {d : DistrictNo} {f : FeedNo} {tag : Byte}

/-! ### An answered request -/

/-- A request other than Reset that its owner answers with `a`. -/
theorem answers_of {i : Instr} {k : RequestKind} {body : List Byte} {made : List Notice} {status : Byte}
    {contents : List Byte} {a : Answer} (h : TakesAtOnce s)
    (frame : i.frame? = some ⟨requestCode k, tag, body⟩) (length : body.length = bodyLength k)
    (notReset : k ≠ .reset) (owner : answerRequest k body s = a) (byte : statusByte a.status = status)
    (reply : a.contents = contents) (state : a.state = { u with notices := handAll made u.notices }) :
    AnswersWith i s u made status contents := by
  subst byte reply
  refine answersWith_ok h frame length notReset ?_
  rw [owner, ← state]

section
variable {i : Instr} {k : RequestKind} {body : List Byte} (h : TakesAtOnce s)
  (frame : i.frame? = some ⟨requestCode k, tag, body⟩) (length : body.length = bodyLength k)
include h frame length

/-- A request that its owner refuses for an argument. -/
theorem refuses_badArg (owner : answerRequest k body s = refuse .badArg s) :
    AnswersWith i s s [] 0x11 [] :=
  answersWith_refused h frame length owner (by decide)

/-- A request that its owner refuses in the state it stands in. -/
theorem refuses_badState (owner : answerRequest k body s = refuse .badState s) :
    AnswersWith i s s [] 0x10 [] :=
  answersWith_refused h frame length owner (by decide)

end

theorem statusByte_okIf (b : Bool) : statusByte (okIf b) = if b then 0x00 else 0x02 := by
  cases b <;> rfl

theorem statusByte_clampedIf (b : Bool) : statusByte (clampedIf b) = if b then 0x01 else 0x00 := by
  cases b <;> rfl

/-- UNCHANGED where nothing changed, OK where something did. -/
theorem statusByte_okIf_of {b : Bool} {p : Prop} [Decidable p] (h : b = true ↔ ¬ p) :
    statusByte (okIf b) = if p then 0x02 else 0x00 := by
  rw [statusByte_okIf]
  by_cases hp : p <;> simp [hp, h]

/-- OK where every value was in range, CLAMPED where one was not. -/
theorem statusByte_clampedIf_of {b : Bool} {p : Prop} [Decidable p] (h : b = true ↔ ¬ p) :
    statusByte (clampedIf b) = if p then 0x00 else 0x01 := by
  rw [statusByte_clampedIf]
  by_cases hp : p <;> simp [hp, h]

/-! ### Codes -/

theorem byte_of_lt_two {m : Byte} (h : m.toNat < 2) : m = 0 ∨ m = 1 := by
  rcases (by omega : m.toNat = 0 ∨ m.toNat = 1) with h | h
  · exact .inl (BitVec.eq_of_toNat_eq h)
  · exact .inr (BitVec.eq_of_toNat_eq h)

section
variable {n : Nat}

theorem switchOf?_none (h : 2 ≤ n) : switchOf? n = none := by
  obtain ⟨k, rfl⟩ := Nat.exists_eq_add_of_le' h
  rfl

theorem kindOf?_none (h : 2 ≤ n) : kindOf? n = none := by
  obtain ⟨k, rfl⟩ := Nat.exists_eq_add_of_le' h
  rfl

theorem polarityOf?_none (h : 2 ≤ n) : polarityOf? n = none := by
  obtain ⟨k, rfl⟩ := Nat.exists_eq_add_of_le' h
  rfl

theorem faultLevelOf?_none (h : 2 ≤ n) : faultLevelOf? n = none := by
  obtain ⟨k, rfl⟩ := Nat.exists_eq_add_of_le' h
  rfl

theorem groupModeOf?_none (h : 2 ≤ n) : groupModeOf? n = none := by
  obtain ⟨k, rfl⟩ := Nat.exists_eq_add_of_le' h
  rfl

theorem counterModeOf?_none (h : 2 ≤ n) : counterModeOf? n = none := by
  obtain ⟨k, rfl⟩ := Nat.exists_eq_add_of_le' h
  rfl

theorem beatModeOf?_none (h : 3 ≤ n) : beatModeOf? n = none := by
  obtain ⟨k, rfl⟩ := Nat.exists_eq_add_of_le' h
  rfl

theorem groupNo?_none (h : n = 0 ∨ 9 ≤ n) : groupNo? n = none := by
  simp [groupNo?]
  omega

theorem groupNo?_some {g : GroupNo} (h : n = g.val + 1) : groupNo? n = some g := by
  subst h
  simp [groupNo?]

end

/-- The codes of the two-valued fields. -/
theorem switchOf?_byte {w : Byte} (h : w.toNat < 2) : switchOf? w.toNat = some (w == 1) := by
  rcases byte_of_lt_two h with rfl | rfl <;> rfl

theorem polarityOf?_byte {p : Byte} (h : p.toNat < 2) :
    polarityOf? p.toNat = some (if p = 0 then .normal else .reversed) := by
  rcases byte_of_lt_two h with rfl | rfl <;> rfl

theorem groupModeOf?_byte {m : Byte} (h : m.toNat < 2) :
    groupModeOf? m.toNat = some (if m = 0 then .asAvailable else .synchronized) := by
  rcases byte_of_lt_two h with rfl | rfl <;> rfl

theorem counterModeOf?_byte {m : Byte} (h : m.toNat < 2) :
    counterModeOf? m.toNat = some (if m = 0 then .wrap else .stop) := by
  rcases byte_of_lt_two h with rfl | rfl <;> rfl

theorem clampTo_eq {low high : Nat} (n : Nat) (h : low ≤ high) :
    clampTo low high n = max low (min n high) := by
  unfold clampTo
  omega

theorem byteOf_toNat_self (b : Byte) : byteOf b.toNat = b := by
  simp [byteOf]

/-! ### Malformed requests -/

theorem requestCode_range (k : RequestKind) : 1 ≤ (requestCode k).toNat ∧ (requestCode k).toNat ≤ 24 := by
  cases k <;> decide

/-- Settles O8. -/
theorem malformedRequestAnswered : Obligations.MalformedRequestAnswered := by
  intro s takes
  refine ⟨fun kind tag body outside => ?_, fun i f k frame kind length => ?_⟩
  · have unknown : requestKindOf kind = none := by
      refine List.find?_eq_none.mpr fun k _ same => ?_
      have := requestCode_range k
      rw [beq_iff_eq.mp same] at this
      omega
    have refused : answer ⟨kind, tag, body⟩ s = refuse .unknown s := by simp [answer, unknown]
    refine answersWith_of_answer takes rfl ?_ ?_ ?_ ?_ <;> rw [refused] <;> simp [refuse, statusByte]
  · have refused : answer f s = refuse .badLength s := by simp [answer, kind, length]
    refine answersWith_of_answer takes frame ?_ ?_ ?_ ?_ <;> rw [refused] <;> simp [refuse, statusByte]

/-- Settles O9. -/
theorem districtNumberRefused : Obligations.DistrictNumberRefused := by
  intro s tag b p takes beyond
  have beyond1 : districtNo? (byteAt [b] 1) = none := districtNo?_none beyond
  have beyond2 : districtNo? (byteAt [b, p] 1) = none := districtNo?_none beyond
  refine ⟨?_, ?_, ?_, ?_, ?_, ?_, ?_⟩
  · exact refuses_badArg (k := .readDistrict) takes rfl rfl
      (by simp only [answerRequest, answerReadDistrict, beyond1])
  · exact refuses_badArg (k := .on) takes rfl rfl (by simp only [answerRequest, answerOn, beyond1])
  · exact refuses_badArg (k := .off) takes rfl rfl (by simp only [answerRequest, answerOff, beyond1])
  · exact refuses_badArg (k := .clear) takes rfl rfl
      (by simp only [answerRequest, answerClear, beyond1])
  · exact refuses_badArg (k := .hold) takes rfl rfl
      (by simp only [answerRequest, answerHold, beyond1])
  · exact refuses_badArg (k := .release) takes rfl rfl
      (by simp only [answerRequest, answerRelease, beyond1])
  · exact refuses_badArg (k := .setPolarity) takes rfl rfl
      (by simp only [answerRequest, answerSetPolarity, beyond2])

/-- Settles O11. -/
theorem resetAwaitsItsReply : Obligations.ResetAwaitsItsReply := by
  intro s tag takes
  refine ⟨_, exec_request (f := ⟨requestCode .reset, tag, []⟩) rfl s, ?_⟩
  have reply : replyTo ⟨requestCode .reset, tag, []⟩ (answerRequest .reset [] s) =
      ⟨⟨0x98, tag, [0x00]⟩, true⟩ := by
    simp [replyTo, answerRequest, answerReset, statusByte]
    decide
  rw [requestArrives_takes takes, answer_of_kind .reset tag [] s rfl, reply]
  exact closes_closeEvent rfl rfl rfl rfl rfl rfl rfl rfl rfl rfl rfl rfl rfl rfl rfl

/-! ### Commands on a district -/

section
variable (takes : TakesAtOnce s)
include takes

/-- The district that a body names is the one that its byte stands for. -/
theorem answers_on_off (off : (s.district d).state = .off) :
    AnswersWith (.on tag [byteOf d.val]) s (s.setDistrict d (turnedOn (s.district d))) [] 0x00 [] ∧
    AnswersWith (.off tag [byteOf d.val]) s s [] 0x02 [] := by
  have on : answerRequest .on [byteOf d.val] s = ⟨.ok, [], s.setDistrict d (turnedOn (s.district d))⟩ := by
    simp [answerRequest, answerOn, off]
  have unchanged : answerRequest .off [byteOf d.val] s = ⟨.unchanged, [], s⟩ := by
    simp [answerRequest, answerOff, off]
  exact ⟨answers_of takes rfl rfl nofun on rfl rfl rfl, answers_of takes rfl rfl nofun unchanged rfl rfl rfl⟩

theorem answers_on_off_of_not_off (on : (s.district d).state ≠ .off) :
    AnswersWith (.on tag [byteOf d.val]) s s [] 0x02 [] ∧
    AnswersWith (.off tag [byteOf d.val]) s (turnOff d s) [] 0x00 [] := by
  have unchanged : answerRequest .on [byteOf d.val] s = ⟨.unchanged, [], s⟩ := by
    simp [answerRequest, answerOn, on]
  have off : answerRequest .off [byteOf d.val] s = ⟨.ok, [], turnOff d s⟩ := by
    simp [answerRequest, answerOff, on]
  exact ⟨answers_of takes rfl rfl nofun unchanged rfl rfl rfl, answers_of takes rfl rfl nofun off rfl rfl rfl⟩

end

/-- Off in the terms of the statement: the claim goes back to the feed (R44). -/
theorem turnOff_eq (d : DistrictNo) (s : State) : turnOff d s =
    (s.setFeed (s.district d).config.feed
      { s.feed (s.district d).config.feed with
        heldSum := (s.feed (s.district d).config.feed).heldSum -
          (s.district d).heldClaim.getD 0 }).setDistrict d
      (turnedOff (s.district d)) := by
  have x : (releaseClaim d s).district d = { s.district d with heldClaim := none } := by simp
  rw [turnOff, x, releaseClaim_setDistrict]
  rfl

/-- Settles O16. -/
theorem onAndOffMoveTheDistrict : Obligations.OnAndOffMoveTheDistrict := by
  intro s tag d takes x f
  refine ⟨fun off => answers_on_off takes off, fun on => ?_⟩
  obtain ⟨onUnchanged, offTaken⟩ := answers_on_off_of_not_off (tag := tag) takes on
  exact ⟨onUnchanged, turnOff_eq d s ▸ offTaken⟩

/-- Settles O18. -/
theorem clearHoldAndRelease : Obligations.ClearHoldAndRelease := by
  intro s tag d takes x
  have held : ∀ b, statusByte (okIf !b) = if b = true then 0x02 else 0x00 := by decide
  have released : ∀ b, statusByte (okIf b) = if b = true then 0x00 else 0x02 := by decide
  refine ⟨fun locked => ?_, fun notLocked => ?_, fun off => ?_, fun on => ?_, ?_⟩
  · have owner : answerRequest .clear [byteOf d.val] s = ⟨.ok, [], s.setDistrict d (Machine.cleared x)⟩ := by
      simp [answerRequest, answerClear, show (s.district d).state = .lockout from locked, x]
    exact answers_of takes rfl rfl nofun owner rfl rfl rfl
  · exact refuses_badState (k := .clear) takes rfl rfl
      (by simp [answerRequest, answerClear, show (s.district d).state ≠ .lockout from notLocked])
  · exact refuses_badState (k := .hold) takes rfl rfl
      (by simp [answerRequest, answerHold, show (s.district d).state = .off from off])
  · have owner : answerRequest .hold [byteOf d.val] s =
        ⟨okIf !x.holdMark, [], s.setDistrict d { x with holdMark := true }⟩ := by
      simp [answerRequest, answerHold, show (s.district d).state ≠ .off from on, x]
    exact answers_of takes rfl rfl nofun owner (held _) rfl rfl
  · have owner : answerRequest .release [byteOf d.val] s =
        ⟨okIf x.holdMark, [], s.setDistrict d { x with holdMark := false }⟩ := by
      simp [answerRequest, answerRelease, x]
    exact answers_of takes rfl rfl nofun owner (released _) rfl rfl

/-- Settles O19. -/
theorem setPolarityWhileOpen : Obligations.SetPolarityWhileOpen := by
  intro s tag b p takes
  refine ⟨fun outside => ?_, ?_⟩
  · refine refuses_badArg takes rfl rfl (k := .setPolarity) ?_
    rcases outside with h | h
    · simp [answerRequest, answerSetPolarity, districtNo?_none h]
    · rcases districtNo? b.toNat with _ | d <;>
        simp [answerRequest, answerSetPolarity, polarityOf?_none h]
  · rintro d rfl legal x wanted
    have code := polarityOf?_byte legal
    refine ⟨fun plain => ?_, fun reversing isClosed => ?_, fun reversing isOpen => ?_⟩
    · exact refuses_badArg takes rfl rfl (k := .setPolarity)
        (by simp [answerRequest, answerSetPolarity, code,
          show (s.district d).config.kind = .plain from plain])
    · exact refuses_badState takes rfl rfl (k := .setPolarity)
        (by simp [answerRequest, answerSetPolarity, code,
          show (s.district d).config.kind = .reversing from reversing,
          show (s.district d).switchClosed = true from isClosed])
    · have owner : answerRequest .setPolarity [byteOf d.val, p] s =
          ⟨okIf (x.polarity != wanted), [], s.setDistrict d { x with polarity := wanted }⟩ := by
        simp [answerRequest, answerSetPolarity, code,
          show (s.district d).config.kind = .reversing from reversing,
          show (s.district d).switchClosed = false from isOpen, x, wanted]
      exact answers_of takes rfl rfl nofun owner (statusByte_okIf_of (by simp)) rfl rfl

/-- Settles O20. -/
theorem setIncidentWrapRestarts : Obligations.SetIncidentWrapRestarts := by
  intro s tag low high takes
  exact answers_of takes rfl rfl nofun (k := .setIncidentWrap) rfl rfl rfl rfl

/-- Settles O17: the mask's bits are its byte's, and the two ways to write the chosen districts agree. -/
theorem allOffTurnsFeedsOff : Obligations.AllOffTurnsFeedsOff := by
  intro s tag m takes masked
  have chosen : inMask m.toNat = masked := by
    funext x
    simp [inMask, masked, BitVec.getLsbD, bne, beq_eq_decide]
  refine ⟨fun illegal => ?_, fun low high => ?_⟩
  · refine refuses_badArg takes rfl rfl (k := .allOff) ?_
    simp only [answerRequest, answerAllOff, byteAt_cons_one]
    exact if_pos illegal
  · have owner : answerRequest .allOff [m] s =
        ⟨okIf (allDistricts.any fun d => masked (s.district d)), [], withdraw masked turnedOff s⟩ := by
      simp only [answerRequest, answerAllOff, byteAt_cons_one, chosen]
      exact if_neg (by omega)
    refine answers_of takes rfl rfl nofun owner ?_ rfl rfl
    rw [statusByte_okIf]
    refine if_congr ?_ rfl rfl
    simp [allDistricts]

/-! ### Groups, beats and counters -/

/-- Settles O26. -/
theorem configureGroupSetsMode : Obligations.ConfigureGroupSetsMode := by
  intro s tag b m takes
  refine ⟨fun illegal => ?_, fun g number legal => ?_⟩
  · refine refuses_badArg takes rfl rfl (k := .configureGroup) ?_
    rcases (by omega : (b.toNat = 0 ∨ 9 ≤ b.toNat) ∨ 2 ≤ m.toNat) with h | h
    · simp [answerRequest, answerConfigureGroup, groupNo?_none h]
    · rcases hg : groupNo? b.toNat with _ | g <;>
        simp [answerRequest, answerConfigureGroup, groupModeOf?_none h, hg]
  · intro mode
    have owner : answerRequest .configureGroup [b, m] s =
        ⟨okIf (s.groupMode g != mode), [], { s with groupModes := s.groupModes.set g.val mode }⟩ := by
      simp [answerRequest, answerConfigureGroup, groupNo?_some number, groupModeOf?_byte legal, mode]
    exact answers_of takes rfl rfl nofun owner (statusByte_okIf_of (by simp)) rfl rfl

/-- Settles O27. -/
theorem configureCountersSetsBoth : Obligations.ConfigureCountersSetsBoth := by
  intro s tag m e takes
  refine ⟨fun illegal => ?_, fun legalMode legalEnable => ?_⟩
  · refine refuses_badArg takes rfl rfl (k := .configureCounters) ?_
    rcases illegal with h | h
    · simp [answerRequest, answerConfigureCounters, counterModeOf?_none h]
    · rcases hm : counterModeOf? m.toNat with _ | mode <;>
        simp [answerRequest, answerConfigureCounters, switchOf?_none h, hm]
  · intro mode
    have owner : answerRequest .configureCounters [m, e] s =
        ⟨okIf (s.bank.mode != mode || s.bank.noticeEnable != (e == 1)), [],
          { s with bank := { s.bank with mode := mode, noticeEnable := e == 1 } }⟩ := by
      simp [answerRequest, answerConfigureCounters, counterModeOf?_byte legalMode,
        switchOf?_byte legalEnable, mode]
    refine answers_of takes rfl rfl nofun owner (statusByte_okIf_of ?_) rfl rfl
    rw [Bool.or_eq_true, bne_iff_ne, bne_iff_ne, not_and_or]

/-- Settles O28. -/
theorem configureBeatRestartsTiming : Obligations.ConfigureBeatRestartsTiming := by
  intro s tag m i0 i1 p0 p1 takes
  refine ⟨fun illegal => ?_, ?_⟩
  · exact refuses_badArg takes rfl rfl (k := .configureBeat)
      (by simp [answerRequest, answerConfigureBeat, beatModeOf?_none illegal])
  · rintro mode rfl asked askedSpacing interval spacing
    have applied : clampTo 5 1000 asked = interval ∧ clampTo 1 255 askedSpacing = spacing :=
      ⟨clampTo_eq _ (by omega), clampTo_eq _ (by omega)⟩
    have owner : answerRequest .configureBeat [beatModeByte mode, i0, i1, p0, p1] s =
        ⟨clampedIf (interval != asked || spacing != askedSpacing),
          [beatModeByte mode] ++ wordBytes interval ++ wordBytes spacing,
          s.setBeats (reconfiguredBeats mode interval spacing s.beats)⟩ := by
      rw [← applied.1, ← applied.2]
      simp only [answerRequest, answerConfigureBeat, byteAt_cons_one, beatModeOf?_byte]
      rfl
    refine answers_of takes rfl rfl nofun owner (statusByte_clampedIf_of ?_) rfl rfl
    rw [Bool.or_eq_true, bne_iff_ne, bne_iff_ne, not_and_or]

/-- Settles O29. -/
theorem singleBeatTakesOneBeat : Obligations.SingleBeatTakesOneBeat := fun _ _ takes =>
  answers_of takes rfl rfl nofun (k := .singleBeat) rfl rfl rfl rfl

/-- Settles O31. -/
theorem counterReadsClear : Obligations.CounterReadsClear := by
  intro s tag a n takes run cleared contents
  refine ⟨fun illegal => ?_, fun some few inside => ?_⟩
  · have none : counterRun? (byteAt [a, n] 1) (byteAt [a, n] 2) = none := if_pos illegal
    constructor
    · exact refuses_badArg takes rfl rfl (k := .readCounters)
        (by simp only [answerRequest, answerReadCounters, answerCounterRead, none])
    · exact refuses_badArg takes rfl rfl (k := .readAndClearCounters)
        (by simp only [answerRequest, answerReadAndClearCounters, answerCounterRead, none])
  · have legal : counterRun? (byteAt [a, n] 1) (byteAt [a, n] 2) =
        .some ((List.finRange 128).filter run) := by
      refine (if_neg ?_).trans rfl
      simp only [byteAt_cons_one, byteAt_cons_succ, Nat.zero_add]
      omega
    have bytes : ∀ i : CounterIx, counterBytes (s.counter i) = wordBytes (s.counter i).value
        ++ [BitVec.ofNat 8
          ((if (s.counter i).half then 1 else 0) + (if (s.counter i).full then 2 else 0))] := by
      intro i
      rw [counterBytes]
      rcases (s.counter i).half with _ | _ <;> rcases (s.counter i).full with _ | _ <;> rfl
    have read : ∀ change, answerCounterRead change [a, n] s = ⟨.ok, contents, cleared change⟩ := by
      intro change
      have first : byteOf (byteAt [a, n] 1) = a := byteOf_toNat_self a
      have count : byteOf (byteAt [a, n] 2) = n := byteOf_toNat_self n
      rw [answerCounterRead, legal]
      simp only [first, count, bytes, changeRun, contents, cleared, List.mem_filter, List.mem_finRange,
        true_and]
    constructor
    · exact answers_of takes rfl rfl nofun (k := .readCounters) (read _) rfl rfl rfl
    · exact answers_of takes rfl rfl nofun (k := .readAndClearCounters) (read _) rfl rfl rfl

/-! ### Notices and link -/

/-- Settles O33. -/
theorem configureNoticesSetsBoth : Obligations.ConfigureNoticesSetsBoth := by
  intro s tag m w takes
  refine ⟨fun illegal => ?_, fun legalMask legalFlow => ?_⟩
  · refine refuses_badArg takes rfl rfl (k := .configureNotices) ?_
    rcases hw : switchOf? w.toNat with _ | flow
    · simp [answerRequest, answerConfigureNotices, hw]
    · have mask : 64 ≤ m.toNat := illegal.resolve_right fun h => by
        rw [switchOf?_none h] at hw; cases hw
      simp [answerRequest, answerConfigureNotices, hw, mask]
  · have owner : answerRequest .configureNotices [m, w] s =
        ⟨okIf (s.notices.kindMask != m.setWidth 6 || s.notices.flow != (w == 1)), [],
          s.setNotices { s.notices with kindMask := m.setWidth 6, flow := w == 1 }⟩ := by
      simp [answerRequest, answerConfigureNotices, switchOf?_byte legalFlow, not_le.mpr legalMask]
    refine answers_of takes rfl rfl nofun owner (statusByte_okIf_of ?_) rfl rfl
    rw [Bool.or_eq_true, bne_iff_ne, bne_iff_ne, not_and_or]

/-- Settles O34. -/
theorem linkStatusClears : Obligations.LinkStatusClears := by
  intro s tag takes
  refine answers_of takes rfl rfl nofun (k := .linkStatus) rfl rfl ?_ rfl
  rcases h : s.link.lastCause with _ | cause
  · simp [answerRequest, answerLinkStatus, h, discardByte]
  · rcases cause <;> simp [answerRequest, answerLinkStatus, h, discardByte]

end Sys2Proof.Machine
end

section
/-! The requests that configure feeds and status outputs or read the part: fields, codes and layouts. -/

namespace Sys2Proof.Machine

variable {s u : State} {d : DistrictNo} {f : FeedNo} {tag : Byte}

/-! ### Clamping (R4) -/

theorem clampConfig_inRange (c : DistrictConfig) : ConfigInRange (clampConfig c) := by
  simp only [ConfigInRange, clampConfig, clampTo]
  omega

theorem clampConfig_of_inRange {c : DistrictConfig} (h : ConfigInRange c) : clampConfig c = c := by
  cases c
  simp only [ConfigInRange] at h
  simp only [clampConfig, clampTo, DistrictConfig.mk.injEq, true_and, and_true]
  refine ⟨?_, ?_, ?_, ?_, ?_, ?_, ?_, ?_, ?_, ?_, ?_, ?_, ?_, ?_⟩ <;> omega

/-- Settles O12. -/
theorem clampingIntoRange : Obligations.ClampingIntoRange := by
  intro c a
  refine ⟨clampConfig_inRange c, clampConfig_of_inRange, rfl, rfl, rfl, rfl, rfl, ?_⟩
  simp only [a, clampConfig, clampTo]
  omega

/-! ### Bytes -/

theorem byteOf_ne_noneByte {n : Nat} (h : n < 255) : byteOf n ≠ 0xFF := fun same => by
  have := congrArg BitVec.toNat same
  rw [byteOf_toNat n (by omega)] at this
  simp at this
  omega

/-- The byte of seven marks as the sum of the marks' weights. -/
theorem marksByte_seven (b0 b1 b2 b3 b4 b5 b6 : Bool) :
    marksByte [b0, b1, b2, b3, b4, b5, b6] = BitVec.ofNat 8
      ((if b0 then 1 else 0) + (if b1 then 2 else 0) + (if b2 then 4 else 0) + (if b3 then 8 else 0)
        + (if b4 then 16 else 0) + (if b5 then 32 else 0) + (if b6 then 64 else 0)) := by
  have weight : ∀ (b : Bool) (n : Nat), (if b then n else 0) = n * (if b then 1 else 0) := by
    intro b n
    cases b <;> simp
  rw [marksByte, byteOf, weight b1 2, weight b2 4, weight b3 8, weight b4 16, weight b5 32, weight b6 64]
  simp only [List.foldr_cons, List.foldr_nil]
  congr 1
  omega

/-- A bit of the number that a list of marks stands for. -/
theorem testBit_marks (marks : List Bool) (n : Nat) :
    (marks.foldr (fun (b : Bool) n => (if b then 1 else 0) + 2 * n) 0).testBit n = marks.getD n false := by
  induction marks generalizing n with
  | nil => simp
  | cons b rest ih =>
    have bit : ∀ m : Nat, (if b then 1 else 0) + 2 * m = Nat.bit b m := fun m => by
      cases b <;> simp [Nat.bit, Nat.add_comm]
    rw [List.foldr_cons, bit]
    cases n with
    | zero => simp
    | succ n => rw [Nat.testBit_bit_succ, ih]; simp

/-- A bit of a byte of marks. -/
theorem marksByte_bit (marks : List Bool) (n : Nat) (h : n < 8) :
    (marksByte marks).getLsbD n = marks.getD n false := by
  rw [marksByte, byteOf, BitVec.getLsbD_ofNat, testBit_marks]
  simp [h]

/-! ### Reading the part -/

/-- Settles O15. -/
theorem identifyAndReadDistrict : Obligations.IdentifyAndReadDistrict := by
  intro s tag d takes
  refine ⟨?_, ?_⟩
  · refine answers_of takes rfl rfl nofun (k := .identify) rfl rfl ?_ rfl
    rcases h : s.link.rate <;> simp [answerRequest, answerIdentify, h, rateByte, wordBytes, byteOf,
      Config.noticeCapacity, Config.receiveCapacity, Config.replyCapacity]
  · intro x bit
    have live : liveBytes x = [stateByte x.state,
          BitVec.ofNat 8 (bit x.switchClosed 1 + bit (x.polarity == .reversed) 2 + bit x.incidentOpen 4
            + bit x.holdMark 8 + bit x.feedLossMark 16 + bit x.overRange 32 + bit x.flipArmed 64),
          phaseByte x.timerPhase]
        ++ wordBytes ((x.timerLeft + 1151) / 1152) ++ [byteOf x.attemptsLeft, byteOf x.backoffStep]
        ++ wordBytes x.incident
        ++ [match x.heldClaim with | none => 0xFF | some n => BitVec.ofNat 8 n,
          match x.observedPeak with | none => 0xFF | some n => BitVec.ofNat 8 n,
          match x.lastTripCause with | none => 0 | some .accumulated => 1 | some .hard => 2]
        ++ wordBytes x.lastSample ++ wordBytes x.peakInSettle ++ wordBytes x.accumulator
        ++ [byteOf x.guardRun] := by
      rw [liveBytes, marksByte_seven]
      rcases x.heldClaim with _ | _ <;> rcases x.observedPeak with _ | _ <;>
        rcases x.lastTripCause with _ | _ | _ <;> rfl
    have owner : answerRequest .readDistrict [byteOf d.val] s =
        ⟨.ok, configBytes d x.config ++ liveBytes x, s⟩ := by
      simp [answerRequest, answerReadDistrict, x]
    refine answers_of takes rfl rfl nofun owner rfl ?_ rfl
    rw [live]
    simp only [List.append_assoc] <;> rfl

theorem readSummary_district (s : State) (d : DistrictNo) :
    stateByte (s.district d).state ||| (if (s.district d).holdMark then 8 else 0) =
      BitVec.ofNat 8 ((stateByte (s.district d).state).toNat +
        if (s.district d).holdMark then 8 else 0) := by
  cases (s.district d).state <;> cases (s.district d).holdMark <;> rfl

/-- Settles O25. -/
theorem readFeedAndSummaryReplies : Obligations.ReadFeedAndSummaryReplies := by
  intro s tag takes
  refine ⟨fun b beyond => ?_, fun f => ?_, _,
    answers_of takes rfl rfl nofun (k := .readSummary) rfl rfl rfl rfl,
      by simp [answerRequest, answerReadSummary, allDistricts, allFeeds], fun d => ?_, fun f => ?_, ?_,
        fun g => ?_⟩
  · exact refuses_badArg (k := .readFeed) takes rfl rfl
      (by simp [answerRequest, answerReadFeed, feedNo?_none beyond])
  · intro x
    have owner : answerRequest .readFeed [byteOf f.val] s =
        ⟨.ok, [byteOf f.val] ++ wordBytes x.allowance
          ++ [byteOf x.launchWidth, faultLevelByte x.faultLevel, byteOf x.resumeDelay,
            feedStateByte x.state, lineLevelByte x.lineLevel]
          ++ wordBytes (timerMs x.resumeTimer) ++ [byteOf x.heldSum, byteOf (freeBudget x)], s⟩ := by
      simp [answerRequest, answerReadFeed, x]
    exact answers_of takes rfl rfl nofun owner rfl rfl rfl
  · rw [← readSummary_district]
    simp [answerRequest, answerReadSummary, allDistricts, List.getElem?_append]
  · simp [answerRequest, answerReadSummary, allDistricts, allFeeds, List.getElem?_append]
  · simp [answerRequest, answerReadSummary, allDistricts, allFeeds]
  · have byte : (answerRequest .readSummary [] s).contents.getD 29 0 =
        marksByte ((List.finRange 8).map fun g => s.groupMode g == .synchronized) := by
      simp [answerRequest, answerReadSummary, allDistricts, allFeeds]
    rw [byte, marksByte_bit _ _ g.isLt]
    simp

/-! ### Configuring feeds -/

/-- A Configure Feed request that passes its checks, at its owner. -/
theorem answerConfigureFeed_applies {a0 a1 w r : Byte} {fault : FaultLevel}
    (room : (s.feed f).heldSum ≤ max 1 (min (a0.toNat + 256 * a1.toNat) 250)) :
    answerRequest .configureFeed [byteOf f.val, a0, a1, w, faultLevelByte fault, r] s =
      let asked := a0.toNat + 256 * a1.toNat
      let allowance := max 1 (min asked 250)
      let width := max 1 (min w.toNat 8)
      let delay := max 1 r.toNat
      let t := configureFeed f allowance width fault delay s
      ⟨clampedIf (allowance != asked || width != w.toNat || delay != r.toNat),
        [byteOf f.val] ++ wordBytes allowance
          ++ [byteOf width, faultLevelByte fault, byteOf delay, feedStateByte (t.feed f).state], t⟩ := by
  have allowance : clampTo 1 250 (a0.toNat + 256 * a1.toNat) = max 1 (min (a0.toNat + 256 * a1.toNat) 250) :=
    clampTo_eq _ (by omega)
  have width : clampTo 1 8 w.toNat = max 1 (min w.toNat 8) := clampTo_eq _ (by omega)
  have delay : clampTo 1 255 r.toNat = max 1 r.toNat := by
    rw [clampTo_eq _ (by omega)]
    omega
  simp only [answerRequest, answerConfigureFeed, wordAt, byteAt_cons_one, byteAt_cons_succ, Nat.zero_add,
    Nat.reduceAdd, feedNo?_byteOf, faultLevelOf?_byte, allowance, width, delay]
  exact if_neg (not_lt.mpr room)

/-- A Configure Feed request with an allowance below the held sum, at its owner. -/
theorem answerConfigureFeed_below {a0 a1 w r : Byte} {fault : FaultLevel}
    (below : max 1 (min (a0.toNat + 256 * a1.toNat) 250) < (s.feed f).heldSum) :
    answerRequest .configureFeed [byteOf f.val, a0, a1, w, faultLevelByte fault, r] s =
      refuse .badState s := by
  rw [← clampTo_eq _ (by omega)] at below
  simp only [answerRequest, answerConfigureFeed, wordAt, byteAt_cons_one, byteAt_cons_succ, Nat.zero_add,
    Nat.reduceAdd, feedNo?_byteOf, faultLevelOf?_byte]
  exact if_pos below

/-- A legal byte is the code of a fault level. -/
theorem faultLevelByte_of_legal {l : Byte} (h : l.toNat < 2) : ∃ fault, l = faultLevelByte fault := by
  rcases byte_of_lt_two h with rfl | rfl
  exacts [⟨.activeLow, rfl⟩, ⟨.activeHigh, rfl⟩]

/-- CLAMPED where one of three values was brought into range. -/
theorem statusByte_clampedIf_three (a a' w w' r r' : Nat) :
    statusByte (clampedIf (a != a' || w != w' || r != r')) =
      if a = a' ∧ w = w' ∧ r = r' then 0x00 else 0x01 := by
  refine statusByte_clampedIf_of ?_
  simp only [Bool.or_eq_true, bne_iff_ne]
  tauto

/-- Settles O21. -/
theorem configureFeedApplies : Obligations.ConfigureFeedApplies := by
  intro s tag fb a0 a1 w l r takes asked allowance width delay
  refine ⟨fun illegal => ?_, ?_⟩
  · refine refuses_badArg (k := .configureFeed) takes rfl rfl ?_
    rcases illegal with h | h
    · simp [answerRequest, answerConfigureFeed, feedNo?_none h]
    · rcases hf : feedNo? fb.toNat with _ | f <;>
        simp [answerRequest, answerConfigureFeed, faultLevelOf?_none h, hf]
  · rintro f rfl legal x
    obtain ⟨fault, rfl⟩ := faultLevelByte_of_legal legal
    refine ⟨fun below => ?_, fun room same => ?_⟩
    · exact refuses_badState (k := .configureFeed) takes rfl rfl (answerConfigureFeed_below below)
    · have held : fault = x.faultLevel := by
        have := congrArg (fun b : Byte => faultLevelOf? b.toNat) same
        simpa using this
      have kept : configureFeed f allowance width fault delay s =
          s.setFeed f { x with allowance := allowance, launchWidth := width, resumeDelay := delay } := by
        rw [configureFeed, if_pos held.symm, held]
      refine answers_of takes rfl rfl nofun (answerConfigureFeed_applies room)
        (statusByte_clampedIf_three ..) ?_ kept
      show _ ++ [_, _, _, feedStateByte ((configureFeed f allowance width fault delay s).feed f).state] = _
      rw [kept]
      simp [asked, allowance, width, delay, x]

/-- Settles O24. -/
theorem faultLevelChangeRereads : Obligations.FaultLevelChangeRereads := by
  intro s tag a0 a1 w r f fault takes x asked allowance width delay changed room v i status contents
  have reread : configureFeed f allowance width fault delay s =
      takeLineLevel f (readFault fault s.pins.faultInput[f.val]) v := by
    have line : faultLineOf v f = readFault fault s.pins.faultInput[f.val] := by
      simp [faultLineOf, v]
    rw [← line]
    exact if_neg (Ne.symm changed)
  have same : (v.feed f).state = x.state := by simp [v, x]
  have answered : ∀ {w' : State} {made : List Notice} {state : FeedState},
      takeLineLevel f (readFault fault s.pins.faultInput[f.val]) v =
        { w' with notices := handAll made w'.notices } → (w'.feed f).state = state →
      AnswersWith i s w' made status (contents state) := by
    intro w' made state taken stands
    refine answers_of takes rfl rfl nofun (answerConfigureFeed_applies room)
      (statusByte_clampedIf_three ..) ?_ (reread.trans taken)
    show _ ++ [_, _, _, feedStateByte ((configureFeed f allowance width fault delay s).feed f).state] = _
    rw [reread, taken, ← stands]
    rfl
  refine ⟨fun read up => ?_, fun read down => ?_⟩
  · refine answered ?_ ?_
    · rw [read, takeLineLevel_asserted (same ▸ up)]
      rfl
    · simp [feedAsserted_feed]
  · refine answered ?_ ?_
    · rw [read, takeLineLevel_released (same.trans down)]
      rfl
    · simp [feedReleased]

/-! ### Configuring status outputs -/

theorem sourceOf?_none {k o : Nat}
    (h : 14 ≤ k ∨ (2 ≤ k ∧ k ≤ 6 ∧ 24 ≤ o) ∨ (7 ≤ k ∧ k ≤ 9 ∧ 4 ≤ o)) : sourceOf? k o = none := by
  rcases h with kind | ⟨low, high, object⟩ | ⟨low, high, object⟩
  · obtain ⟨n, rfl⟩ := Nat.exists_eq_add_of_le' kind
    rfl
  · have outside := districtNo?_none object
    interval_cases k <;> simp [sourceOf?, outside]
  · have outside := feedNo?_none object
    interval_cases k <;> simp [sourceOf?, outside]

theorem sourceOf?_code (source : Source) {o : Byte}
    (h : sourceObjectByte source ≠ 0xFF → o = sourceObjectByte source) :
    sourceOf? (sourceKindByte source).toNat o.toNat = some source := by
  have district : ∀ d : DistrictNo, byteOf d.val ≠ 0xFF := fun d => byteOf_ne_noneByte (by omega)
  have feed : ∀ f : FeedNo, byteOf f.val ≠ 0xFF := fun f => byteOf_ne_noneByte (by omega)
  cases source with
  | districtEnergized d | districtPowered d | districtTripped d | districtLockout d | districtReversed d =>
    obtain rfl := h (district d)
    simp [sourceOf?, sourceKindByte, sourceObjectByte]
  | feedAnyTripped f | feedAllPowered f | feedSuspended f =>
    obtain rfl := h (feed f)
    simp [sourceOf?, sourceKindByte, sourceObjectByte]
  | _ => rfl

/-- Only the sources of the lines count in what an event changes; their levels follow. -/
theorem AnswersWith.of_lines {i : Instr} {lines : Vector StatusLine 8} {made : List Notice} {status : Byte}
    {contents : List Byte} (h : AnswersWith i s { u with lines := lines } made status contents)
    (same : ∀ n : LineNo, (u.line n).source = lines[n.val].source ∧ (u.line n).invert = lines[n.val].invert) :
    AnswersWith i s u made status contents := by
  obtain ⟨frame, t, isFrame, run, c⟩ := h
  exact ⟨frame, t, isFrame, run, c.districts, c.nextIncident, c.incidentWrap, c.feeds, c.rotation,
    c.groupModes, c.beats, c.bank, c.pins, c.now, c.choices, c.pending,
    fun n => ⟨(c.sources n).1.trans (same n).1.symm, (c.sources n).2.trans (same n).2.symm⟩, c.levels, c.link⟩

theorem switchOf?_mark (b : Bool) : switchOf? (if b then (1 : Byte) else 0).toNat = some b := by
  cases b <;> rfl

/-- Settles O32. -/
theorem configureStatusLineFollows : Obligations.ConfigureStatusLineFollows := by
  intro s tag takes
  refine ⟨fun l k o v illegal => ?_, fun n source o invert object => ?_⟩
  · refine refuses_badArg (k := .configureStatusLine) takes rfl rfl ?_
    rcases hl : lineNo? l.toNat with _ | n
    · simp [answerRequest, answerConfigureStatusLine, hl]
    rcases hk : sourceOf? k.toNat o.toNat with _ | source
    · simp [answerRequest, answerConfigureStatusLine, hl, hk]
    have line : ¬ 8 ≤ l.toNat := fun h => by rw [lineNo?_none h] at hl; cases hl
    have mark : 2 ≤ v.toNat := by
      by_contra small
      have : sourceOf? k.toNat o.toNat = none := sourceOf?_none (by omega)
      rw [this] at hk
      cases hk
    simp [answerRequest, answerConfigureStatusLine, hl, hk, switchOf?_none mark]
  · have owner : answerRequest .configureStatusLine
        [byteOf n.val, sourceKindByte source, o, if invert then 1 else 0] s =
        ⟨okIf ((s.line n).source != source || (s.line n).invert != invert),
          [byteOf n.val, sourceKindByte source, sourceObjectByte source, boolByte invert,
            levelByte (lineLevel s source invert)],
          { s with lines := s.lines.set n.val ⟨source, invert, lineLevel s source invert⟩ }⟩ := by
      simp only [answerRequest, answerConfigureStatusLine, byteAt_cons_one, byteAt_cons_succ, Nat.zero_add,
        Nat.reduceAdd, lineNo?_byteOf, sourceOf?_code source object, switchOf?_mark]
    have level : levelByte (lineLevel s source invert) = if sourceValue s source = invert then 0 else 1 := by
      simp only [lineLevel, takes.1]
      rcases sourceValue s source <;> rcases invert <;> rfl
    refine AnswersWith.of_lines (lines := s.lines.set n.val ⟨source, invert, lineLevel s source invert⟩)
      (answers_of takes rfl rfl nofun owner (statusByte_okIf_of ?_) ?_ rfl) fun m => ?_
    · rw [Bool.or_eq_true, bne_iff_ne, bne_iff_ne, not_and_or]
    · rw [level]
      rfl
    · simp only [State.line, Vector.getElem_set]
      split_ifs <;> exact ⟨rfl, rfl⟩

end Sys2Proof.Machine
end

section
/-! Configure District: its body reads back the configuration asked for, and its checks in their order. -/

namespace Sys2Proof.Machine

variable {s : State} {d e p : DistrictNo} {tag : Byte}

/-! ### The body -/

@[simp] theorem kindOf?_kindByte (k : DistrictKind) : kindOf? (kindByte k).toNat = some k := by
  cases k <;> rfl

@[simp] theorem switchOf?_boolByte (b : Bool) : switchOf? (boolByte b).toNat = some b := by
  cases b <;> rfl

@[simp] theorem groupField?_groupByte (g : Option GroupNo) : groupField? (groupByte g).toNat = some g := by
  cases g with
  | none => rfl
  | some g =>
    have number : (groupByte (some g)).toNat = g.val + 1 := byteOf_toNat _ (by omega)
    rw [number, groupField?, if_neg (by omega), groupNo?_some rfl]
    rfl

@[simp] theorem parentField?_parentByte (p : Option DistrictNo) :
    parentField? (parentByte p).toNat = some p := by
  cases p with
  | none => rfl
  | some p =>
    have number : (parentByte (some p)).toNat = p.val := byteOf_toNat _ (by omega)
    have notNone : p.val ≠ noneByte.toNat := by
      show p.val ≠ 255
      omega
    rw [number, parentField?, if_neg notNone]
    simp [districtNo?]

/-- A two-byte field reads back the number that it carries. -/
theorem word_mod {n : Nat} (h : n < 65536) : n % 256 + 256 * (n / 256 % 256) = n := by
  omega

/-- The body of Configure District reads back the configuration that it carries (section 10.7). -/
theorem requestedConfig?_configBytes (d : DistrictNo) {c : DistrictConfig} (fit : FieldsFit c) :
    requestedConfig? (configBytes d c) = some c := by
  obtain ⟨priority, trip, level, drain, hard, settle, flip, guard, time, proving, budget, base, cap, claim⟩ :=
    fit
  simp [requestedConfig?, configBytes, wordBytes, wordAt, word_mod, *]

/-- A body that is read carries legal codes. -/
theorem legal_of_requestedConfig? {body : List Byte} {c : DistrictConfig}
    (h : requestedConfig? body = some c) :
    byteAt body 2 < 4 ∧ byteAt body 3 < 2 ∧ byteAt body 4 < 9 ∧
    (byteAt body 5 < 24 ∨ byteAt body 5 = 255) ∧ byteAt body 28 < 2 := by
  simp only [requestedConfig?, Option.bind_eq_bind, Option.bind_eq_some_iff] at h
  obtain ⟨feed, isFeed, kind, isKind, group, isGroup, parent, isParent, learn, isLearn, -⟩ := h
  refine ⟨?_, ?_, ?_, ?_, ?_⟩ <;> by_contra outside
  · rw [feedNo?_none (by omega)] at isFeed
    cases isFeed
  · rw [kindOf?_none (by omega)] at isKind
    cases isKind
  · rw [groupField?, if_neg (by omega), groupNo?_none (by omega)] at isGroup
    cases isGroup
  · have notNone : byteAt body 5 ≠ noneByte.toNat := fun same => outside (.inr same)
    rw [parentField?, if_neg notNone, districtNo?_none (by omega)] at isParent
    cases isParent
  · rw [switchOf?_none (by omega)] at isLearn
    cases isLearn

/-! ### Parents (R10) -/

/-- The chain of parents, read from its lower end. -/
theorem ancestor_succ (s : State) (n : Nat) (p : DistrictNo) :
    ancestor s (n + 1) p = (s.district p).config.parent.bind (ancestor s n) := by
  induction n with
  | zero => cases h : (s.district p).config.parent <;> simp [ancestor, h]
  | succ n ih =>
    rw [ancestor, ih]
    cases (s.district p).config.parent <;> rfl

/-- The walk from `p` is clear exactly where `d` is not on it. -/
theorem chainClear_iff {links : Nat} (ends : parentChainEnds s links p = true) :
    chainClear s d links p = true ↔ ∀ n, ancestor s n p ≠ some d := by
  induction links generalizing p with
  | zero => simp [parentChainEnds] at ends
  | succ links ih =>
    have split : (∀ n, ancestor s n p ≠ some d) ↔ p ≠ d ∧ ∀ n, ancestor s (n + 1) p ≠ some d := by
      refine ⟨fun h => ⟨fun same => h 0 (congrArg some same), fun n => h (n + 1)⟩, fun ⟨first, rest⟩ n => ?_⟩
      cases n with
      | zero => exact fun same => first (Option.some.inj same)
      | succ n => exact rest n
    rw [split]
    simp only [ancestor_succ, chainClear, Bool.and_eq_true, bne_iff_ne]
    cases parent : (s.district p).config.parent with
    | none => simp
    | some q =>
      have rest : parentChainEnds s links q = true := by simpa [parentChainEnds, parent] using ends
      rw [ih rest]
      rfl

/-- A walk that ends goes on to end from each district on it. -/
theorem parentChainEnds_ancestor {links n : Nat} (ends : parentChainEnds s links d = true)
    (onWalk : ancestor s n d = some e) : n < links ∧ parentChainEnds s (links - n) e = true := by
  have positive : ∀ {m q}, parentChainEnds s m q = true → 0 < m := by
    intro m q h
    cases m with
    | zero => cases h
    | succ m => exact Nat.succ_pos m
  induction n generalizing e with
  | zero =>
    cases onWalk
    exact ⟨positive ends, ends⟩
  | succ n ih =>
    obtain ⟨q, atQ, parent⟩ := Option.bind_eq_some_iff.mp onWalk
    obtain ⟨below, endsQ⟩ := ih atQ
    obtain ⟨m, left⟩ : ∃ m, links - n = m + 1 := ⟨links - n - 1, by omega⟩
    rw [left, parentChainEnds, parent] at endsQ
    have := positive endsQ
    have same : links - (n + 1) = m := by omega
    exact ⟨by omega, same ▸ endsQ⟩

/-- No district is its own ancestor (R10). -/
theorem ancestor_ne_self {links : Nat} (ends : parentChainEnds s links d = true) (n : Nat) :
    ancestor s (n + 1) d ≠ some d := fun cycle => by
  induction links using Nat.strong_induction_on with
  | _ links ih =>
    obtain ⟨below, ends'⟩ := parentChainEnds_ancestor ends cycle
    exact ih _ (by omega) ends'

/-- The check of a requested parent, where no cycle stands: the walk from it must miss the district (R10). -/
theorem parentLegal_iff (acyclic : ParentsAcyclic s) (d : DistrictNo) (parent : Option DistrictNo) :
    parentLegal s d parent = true ↔ ∀ p n, parent = some p → ancestor s n p ≠ some d := by
  cases parent with
  | none => simp [parentLegal]
  | some p =>
    simp only [parentLegal, Bool.or_eq_true, beq_iff_eq, chainClear_iff (acyclic p), Option.some.injEq]
    refine ⟨fun h q n same => same ▸ ?_, fun h => .inr fun n => h p n rfl⟩
    rcases h with held | clear
    · intro cycle
      refine ancestor_ne_self (acyclic d) n ?_
      rw [ancestor_succ, held]
      exact cycle
    · exact clear n

/-! ### The request -/

theorem changesRestricted_iff (old new : DistrictConfig) : changesRestricted old new = true ↔
    new.feed ≠ old.feed ∨ new.kind ≠ old.kind ∨ new.group ≠ old.group ∨ new.parent ≠ old.parent := by
  simp only [changesRestricted, Bool.or_eq_true, bne_iff_ne, or_assoc, ne_comm]

/-- A well-formed Configure District request at its owner, with its checks in their order. -/
theorem answerConfigureDistrict_eq (s : State) (d : DistrictNo) {c : DistrictConfig} (fit : FieldsFit c) :
    answerRequest .configureDistrict (configBytes d c) s =
      if parentLegal s d c.parent = false then refuse .badArg s
      else if changesRestricted (s.district d).config c = true ∧ (s.district d).state ≠ .off then
        refuse .badState s
      else
        ⟨clampedIf (clampConfig c != c), configBytes d (clampConfig c),
          s.setDistrict d (reconfigured (clampConfig c) (s.district d))⟩ := by
  have number : districtNo? (byteAt (configBytes d c) 1) = some d := by simp [configBytes]
  rw [answerRequest, answerConfigureDistrict, number, requestedConfig?_configBytes d fit]
  simp

theorem configBytes_length (d : DistrictNo) (c : DistrictConfig) :
    (configBytes d c).length = bodyLength .configureDistrict := rfl

/-- Settles O13. -/
theorem configureDistrictApplies : Obligations.ConfigureDistrictApplies := by
  intro s tag d c takes acyclic fit clear x allowed a
  have legal : parentLegal s d c.parent = true := (parentLegal_iff acyclic d c.parent).mpr clear
  have unrestricted : ¬ (changesRestricted x.config c = true ∧ x.state ≠ .off) := by
    rw [changesRestricted_iff]
    rintro ⟨changed, on⟩
    rcases allowed with ⟨feed, kind, group, parent⟩ | off
    · simp_all
    · exact on off
  have owner : answerRequest .configureDistrict (configBytes d c) s =
      ⟨clampedIf (a != c), configBytes d a, s.setDistrict d (reconfigured a x)⟩ := by
    rw [answerConfigureDistrict_eq s d fit, if_neg (by simp [legal]), if_neg unrestricted]
  have record : reconfigured a x = { x with
      config := a
      attemptsLeft := min x.attemptsLeft a.retryBudget
      observedPeak :=
        if a.declaredClaim = x.config.declaredClaim ∧ (x.config.learnPeak = false ∨ a.learnPeak = true)
        then x.observedPeak else none
      polarity := if x.config.kind = .reversing ∧ a.kind = .plain then .normal else x.polarity } := by
    have peak : (a.declaredClaim ≠ x.config.declaredClaim ∨ (x.config.learnPeak ∧ ¬ a.learnPeak)) ↔
        ¬ (a.declaredClaim = x.config.declaredClaim ∧ (x.config.learnPeak = false ∨ a.learnPeak = true)) := by
      cases x.config.learnPeak <;> cases a.learnPeak <;> simp
    rw [reconfigured, if_congr peak rfl rfl, ite_not]
  rw [← record]
  exact answers_of takes rfl (configBytes_length d c) nofun owner (statusByte_clampedIf_of bne_iff_ne) rfl rfl

/-- Settles O14. -/
theorem configureDistrictRefuses : Obligations.ConfigureDistrictRefuses := by
  intro s tag takes
  refine ⟨fun body length illegal => ?_, fun d p n c acyclic fit parent cycle => ?_,
    fun d c acyclic fit clear on changed => ?_⟩
  · refine refuses_badArg (k := .configureDistrict) takes rfl length ?_
    rw [answerRequest, answerConfigureDistrict]
    rcases number : districtNo? (byteAt body 1) with _ | d
    · rfl
    rcases read : requestedConfig? body with _ | c
    · rfl
    have inside : byteAt body 1 < 24 := by
      by_contra outside
      rw [districtNo?_none (by omega)] at number
      cases number
    obtain ⟨feed, kind, group, parent, learn⟩ := legal_of_requestedConfig? read
    simp only [byteAt, Nat.reduceSub] at inside feed kind group parent learn
    omega
  · refine refuses_badArg (k := .configureDistrict) takes rfl (configBytes_length d c) ?_
    have illegal : parentLegal s d c.parent = false :=
      eq_false_of_ne_true fun legal => (parentLegal_iff acyclic d c.parent).mp legal p n parent cycle
    rw [answerConfigureDistrict_eq s d fit, if_pos illegal]
  · refine refuses_badState (k := .configureDistrict) takes rfl (configBytes_length d c) ?_
    have legal : parentLegal s d c.parent = true := (parentLegal_iff acyclic d c.parent).mpr clear
    rw [answerConfigureDistrict_eq s d fit, if_neg (by simp [legal]),
      if_pos ⟨(changesRestricted_iff ..).mpr changed, on⟩]

end Sys2Proof.Machine
end

section
/-! The laws of a district record (chapters 1 to 3): each move of the District State Machine, the detector and
the requests keeps them. -/

namespace Sys2Proof.Machine

variable {s : State} {d : DistrictNo} {x y : District}

/-! ### Configurations -/

theorem configInRange_default : ConfigInRange .default := by decide

/-- A reset leaves a record within its laws. -/
theorem districtOk_initial : DistrictOk .initial :=
  ⟨configInRange_default, by decide, by decide, by decide, by decide, by decide, by decide, by decide,
    by decide⟩

section
variable (ok : DistrictOk x)
include ok

/-- A district that is not in Settling holds no claim (R12). -/
theorem heldClaim_of_not_settling (other : x.state ≠ .settling) : x.heldClaim = none := by
  obtain ⟨-, ⟨-, -, claim, -, -⟩, -⟩ := ok
  rw [beq_false_of_ne other] at claim
  exact Option.isNone_iff_eq_none.mp (by simpa using claim)

/-- The switch of a district stands as its state says (R12). -/
theorem switchClosed_eq : x.switchClosed = closedState x := by
  obtain ⟨-, ⟨switch, -⟩, -⟩ := ok
  exact switch

/-! ### Moves that open the switch -/

theorem DistrictOk.turnedOff : DistrictOk (turnedOff x) := by
  obtain ⟨config, -, ⟨budget, -, -, step⟩, -, -, ⟨-, -, guard⟩, sense, plain, -, peak, learn⟩ := ok
  exact ⟨config, ⟨rfl, rfl, rfl, fun _ => rfl, Nat.zero_le _⟩,
    ⟨budget, nofun, by simp [Machine.turnedOff], step⟩,
      ⟨fun _ => rfl, Nat.zero_le _, fun _ => rfl, by simp [Machine.turnedOff]⟩, fun _ => ⟨rfl, rfl⟩,
    ⟨Nat.zero_le _, fun _ => rfl, guard⟩, sense, plain, Nat.zero_le _, peak, learn⟩

theorem DistrictOk.softReset : DistrictOk (softResetDistrict x) := by
  obtain ⟨config, -, -, -, -, -, ⟨last, -⟩, -, -, peak, learn⟩ := ok
  exact ⟨config, ⟨rfl, rfl, rfl, fun _ => rfl, Nat.zero_le _⟩,
    ⟨Nat.zero_le _, nofun, by simp [softResetDistrict], Nat.zero_le _⟩,
    ⟨fun _ => rfl, Nat.zero_le _, fun _ => rfl, by simp [softResetDistrict]⟩, fun _ => ⟨rfl, rfl⟩,
    ⟨Nat.zero_le _, fun _ => rfl, Nat.zero_le _⟩, ⟨last, Nat.zero_le _⟩, fun _ => rfl, Nat.zero_le _, peak,
      learn⟩

/-- A suspension refunds the attempt of a restarting district (R75, R76); one that was Energized has an
attempt left. -/
theorem DistrictOk.returnedToReady (powered : closedState x = true) : DistrictOk (returnedToReady x) := by
  obtain ⟨config, -, ⟨budget, -, remains, step⟩, ⟨noIncident, number, -, -⟩, -, ⟨-, -, guard⟩, sense, plain,
    -, peak, learn⟩ := ok
  have attempts : (Machine.returnedToReady x).attemptsLeft ≤ x.config.retryBudget ∧
      1 ≤ (Machine.returnedToReady x).attemptsLeft := by
    have atLeast : 1 ≤ x.config.retryBudget := by omega
    simp only [Machine.returnedToReady]
    split
    · omega
    · next still =>
      have energized : x.state = .energized := by
        simp only [closedState, restarting, Bool.or_eq_true, beq_iff_eq] at powered still
        tauto
      exact ⟨budget, remains (.inr (.inr energized))⟩
  exact ⟨config, ⟨rfl, rfl, rfl, fun _ => rfl, Nat.zero_le _⟩,
    ⟨attempts.1, nofun, fun _ => attempts.2, step⟩,
    ⟨noIncident, number, by simp [Machine.returnedToReady], by simp [Machine.returnedToReady]⟩, nofun,
    ⟨Nat.zero_le _, fun _ => rfl, guard⟩, sense, plain, Nat.zero_le _, peak, learn⟩

/-- A trip takes a powered district to Backoff with attempts left, or to Lockout with none (R51 to R53). -/
theorem DistrictOk.tripped {cause : TripCause} {number : Nat} (fits : number ≤ 65535) :
    DistrictOk (trippedRecord cause number x) := by
  obtain ⟨config, -, ⟨budget, -, -, step⟩, -, -, ⟨-, -, guard⟩, sense, plain, -, peak, learn⟩ := ok
  have time : ∀ n, msTicks (backoffMs x.config n) ≤ msTicks 60000 := fun n =>
    Nat.mul_le_mul_right _ (backoffMs_range config n).2
  unfold trippedRecord afterTrip
  split
  · exact ⟨config, ⟨rfl, rfl, rfl, nofun, time 1⟩,
      ⟨le_refl _, nofun, fun _ => (show 1 ≤ x.config.retryBudget by omega), Nat.one_le_ofNat⟩,
      ⟨nofun, fits, by simp [enterBackoff, tripRecord], fun _ => rfl⟩, nofun,
      ⟨Nat.zero_le _, fun _ => rfl, guard⟩, sense, plain, Nat.zero_le _, peak, learn⟩
  split
  · next last =>
    exact ⟨config, ⟨rfl, rfl, rfl, fun _ => rfl, Nat.zero_le _⟩,
      ⟨budget, fun _ => last, by simp [tripRecord], step⟩, ⟨nofun, fits, by simp [tripRecord], fun _ => rfl⟩,
        nofun, ⟨Nat.zero_le _, fun _ => rfl, guard⟩, sense, plain,
      Nat.zero_le _, peak, learn⟩
  · next left =>
    exact ⟨config, ⟨rfl, rfl, rfl, nofun, time _⟩,
      ⟨budget, nofun, fun _ => Nat.one_le_iff_ne_zero.mpr left, Nat.min_le_right _ _⟩,
      ⟨nofun, fits, by simp [enterBackoff, tripRecord], fun _ => rfl⟩, nofun,
      ⟨Nat.zero_le _, fun _ => rfl, guard⟩, sense, plain, Nat.zero_le _, peak, learn⟩

/-! ### Samples -/

theorem DistrictOk.sensed {value : Nat} (range : value ≤ 4095) (beyond : Bool) :
    DistrictOk (sensed x value beyond) := by
  obtain ⟨config, table, attempts, incident, marks, detector, ⟨last, peak⟩, plain, claims⟩ := ok
  refine ⟨config, table, attempts, incident, marks, detector, ⟨range, ?_⟩, plain, claims⟩
  show (if x.state = .settling then max x.peakInSettle value else x.peakInSettle) ≤ 4095
  split <;> omega

/-- What the detector writes: its own values and, of a reversing district, the polarity. -/
theorem DistrictOk.detector {a g : Nat} {b : Bool} {p : Polarity} (acc : a ≤ 65535) (run : g ≤ 255)
    (closed : x.switchClosed = true) (plain : x.config.kind = .plain → p = .normal) :
    DistrictOk { x with accumulator := a, guardRun := g, flipArmed := b, polarity := p } := by
  obtain ⟨config, table, attempts, incident, marks, -, sense, -, claims⟩ := ok
  exact ⟨config, table, attempts, incident, marks,
    ⟨acc, fun isOpen => Bool.noConfusion (closed.symm.trans isOpen), run⟩, sense, plain, claims⟩

/-- An evaluated sample moves the detector's values alone, and flips a reversing district alone. -/
theorem evaluateSample_moves (value : Nat) : ∃ a g b p,
    (evaluateSample value x).1 = { x with accumulator := a, guardRun := g, flipArmed := b, polarity := p } ∧
      a ≤ 65535 ∧ g ≤ 255 ∧ (x.config.kind = .plain → p = .normal) := by
  obtain ⟨-, -, -, -, -, ⟨acc, -, guard⟩, -, plain, -⟩ := ok
  have flip : mayFlip x = true → x.config.kind = .plain → invertPolarity x.polarity = .normal := by
    intro flips isPlain
    rw [(mayFlip_iff.mp flips).1] at isPlain
    cases isPlain
  rcases Nat.lt_or_ge value x.config.hardLimit with below | hard
  · rcases Nat.lt_or_ge (effectiveThreshold x) value with excess | noExcess
    · rw [evaluateSample_excess below excess]
      split
      · next flips => exact ⟨0, 0, false, _, rfl, Nat.zero_le _, Nat.zero_le _, flip flips.1⟩
      · rw [tripCheck_eq]
        exact ⟨_, 0, x.flipArmed, x.polarity, rfl, Nat.min_le_right _ _, Nat.zero_le _, plain⟩
    · rw [evaluateSample_drain below noExcess, tripCheck_eq]
      exact ⟨_, _, _, x.polarity, rfl, le_trans (Nat.sub_le _ _) acc, Nat.min_le_right _ _, plain⟩
  · rw [evaluateSample_hard hard]
    split
    · next flips => exact ⟨0, 0, false, _, rfl, Nat.zero_le _, Nat.zero_le _, flip flips⟩
    · exact ⟨_, _, _, _, rfl, acc, guard, plain⟩

/-! ### Launch and expiries -/

theorem DistrictOk.launched {claim : Nat} (fits : claim ≤ 250) :
    DistrictOk (launchRecord claim x) := by
  obtain ⟨config, -, ⟨budget, -, -, step⟩, ⟨noIncident, number, -, -⟩, -, -, ⟨last, -⟩, plain, -, peak,
    learn⟩ := ok
  have time : msTicks x.config.settleTime ≤ msTicks 60000 := Nat.mul_le_mul_right _ (by omega)
  exact ⟨config, ⟨rfl, rfl, rfl, nofun, time⟩,
    ⟨le_trans (Nat.sub_le _ _) budget, nofun, by simp [launchRecord], step⟩,
    ⟨noIncident, number, by simp [launchRecord], by simp [launchRecord]⟩, nofun,
    ⟨Nat.zero_le _, nofun, Nat.zero_le _⟩, ⟨last, Nat.zero_le _⟩, plain, fits, peak, learn⟩

theorem learnedPeak_range :
    (learnedPeak x).getD 0 ≤ 250 ∧ (x.config.learnPeak = false → learnedPeak x = none) := by
  obtain ⟨-, -, -, -, -, -, -, -, -, peak, learn⟩ := ok
  unfold learnedPeak
  split
  · next on => exact ⟨Nat.min_le_right _ _, fun off => absurd on (by simp [off])⟩
  · exact ⟨peak, learn⟩

theorem DistrictOk.proving (settling : x.state = .settling) : DistrictOk
    { x with
      state := .proving, heldClaim := none, observedPeak := learnedPeak x
      timerPhase := .proving, timerLeft := x.config.provingTime * 100 * 1152 } := by
  obtain ⟨peak, learn⟩ := learnedPeak_range ok
  obtain ⟨config, ⟨switch, -⟩, ⟨budget, -, -, step⟩, ⟨noIncident, number, -, -⟩, -, ⟨acc, accOpen, guard⟩,
    sense, plain, -⟩ := ok
  have closed : x.switchClosed = true := by rw [switch, closedState, settling]; rfl
  have time : x.config.provingTime * 100 * 1152 ≤ msTicks 60000 := Nat.mul_le_mul_right _ (by omega)
  exact ⟨config, ⟨closed, rfl, rfl, nofun, time⟩, ⟨budget, nofun, by simp, step⟩,
    ⟨noIncident, number, by simp, by simp⟩, nofun, ⟨acc, accOpen, guard⟩, sense, plain, Nat.zero_le _, peak,
      learn⟩

/-- Entry to Energized, by a proving expiry or by a settle expiry without a proving time (R47, R49). -/
theorem DistrictOk.energized (closed : closedState x = true) {peak : Option Nat} (range : peak.getD 0 ≤ 250)
    (learn : x.config.learnPeak = false → peak = none) : DistrictOk
    { x with
      state := .energized, heldClaim := none, observedPeak := peak
      timerPhase := .idle, timerLeft := 0, attemptsLeft := x.config.retryBudget
      backoffStep := 0, incident := 0, incidentOpen := false } := by
  obtain ⟨config, ⟨switch, -⟩, -, -, -, ⟨acc, accOpen, guard⟩, sense, plain, -⟩ := ok
  have atLeast : 1 ≤ x.config.retryBudget := by omega
  exact ⟨config, ⟨switch.trans closed, rfl, rfl, fun _ => rfl, Nat.zero_le _⟩,
    ⟨le_refl _, nofun, fun _ => atLeast, Nat.zero_le _⟩, ⟨fun _ => rfl, Nat.zero_le _, fun _ => rfl, by simp⟩,
      nofun,
    ⟨acc, accOpen, guard⟩, sense, plain, Nat.zero_le _, range, learn⟩

theorem DistrictOk.backoffOver (waiting : x.state = .backoff) : DistrictOk (backoffOver x) := by
  have claim : x.heldClaim = none := heldClaim_of_not_settling ok (by simp [waiting])
  obtain ⟨config, ⟨switch, -⟩, ⟨budget, -, remains, step⟩, ⟨noIncident, number, -, -⟩, -, detector, sense,
    plain, claims⟩ := ok
  have isOpen : x.switchClosed = false := by rw [switch, closedState, waiting]; rfl
  exact ⟨config, ⟨isOpen, rfl, congrArg Option.isSome claim, fun _ => rfl, Nat.zero_le _⟩,
    ⟨budget, nofun, fun _ => remains (.inr (.inl waiting)), step⟩,
    ⟨noIncident, number, by simp [Machine.backoffOver], by simp [Machine.backoffOver]⟩, nofun, detector,
      sense, plain,
    claims⟩

/-! ### Requests -/

theorem DistrictOk.turnedOn (off : x.state = .off) : DistrictOk (turnedOn x) := by
  have claim : x.heldClaim = none := heldClaim_of_not_settling ok (by simp [off])
  obtain ⟨config, ⟨switch, phase, -, idle, time⟩, -, -, -, detector, sense, plain, claims⟩ := ok
  have isOpen : x.switchClosed = false := by rw [switch, closedState, off]; rfl
  have stopped : x.timerPhase = .idle := by rw [phase, off]; rfl
  have atLeast : 1 ≤ x.config.retryBudget := by omega
  exact ⟨config, ⟨isOpen, stopped, congrArg Option.isSome claim, idle, time⟩,
    ⟨le_refl _, nofun, fun _ => atLeast, Nat.zero_le _⟩,
    ⟨fun _ => rfl, Nat.zero_le _, fun _ => rfl, by simp [Machine.turnedOn]⟩, nofun, detector, sense, plain,
      claims⟩

theorem DistrictOk.cleared (locked : x.state = .lockout) : DistrictOk (cleared x) := by
  have claim : x.heldClaim = none := heldClaim_of_not_settling ok (by simp [locked])
  obtain ⟨config, ⟨switch, phase, -, idle, time⟩, -, ⟨noIncident, number, -, -⟩, -, detector, sense, plain,
    claims⟩ := ok
  have isOpen : x.switchClosed = false := by rw [switch, closedState, locked]; rfl
  have stopped : x.timerPhase = .idle := by rw [phase, locked]; rfl
  have atLeast : 1 ≤ x.config.retryBudget := by omega
  exact ⟨config, ⟨isOpen, stopped, congrArg Option.isSome claim, idle, time⟩,
    ⟨le_refl _, nofun, fun _ => atLeast, Nat.zero_le _⟩,
    ⟨noIncident, number, by simp [Machine.cleared], by simp [Machine.cleared]⟩, nofun, detector, sense, plain,
      claims⟩

theorem DistrictOk.holdMark {b : Bool} (h : b = true → x.state ≠ .off) :
    DistrictOk { x with holdMark := b } := by
  obtain ⟨config, table, attempts, incident, marks, detector, sense, plain, claims⟩ := ok
  refine ⟨config, table, attempts, incident, fun off => ⟨?_, (marks off).2⟩, detector, sense, plain, claims⟩
  by_contra set
  exact h (by simpa using set) off

theorem DistrictOk.polarity (p : Polarity) (reversing : x.config.kind ≠ .plain) :
    DistrictOk { x with polarity := p } := by
  obtain ⟨config, table, attempts, incident, marks, detector, sense, -, claims⟩ := ok
  exact ⟨config, table, attempts, incident, marks, detector, sense, fun plain => absurd plain reversing,
    claims⟩

/-- A new configuration in range, with the attempts cut, the peak cleared and the polarity set normal where it
has to be (R7 to R9). -/
theorem DistrictOk.reconfigured {c : DistrictConfig} (inRange : ConfigInRange c) :
    DistrictOk (reconfigured c x) := by
  obtain ⟨-, table, ⟨budget, locked, remains, step⟩, incident, marks, detector, sense, plain, claim, peak,
    learn⟩ := ok
  have atLeast : 1 ≤ c.retryBudget := by omega
  refine ⟨inRange, table, ⟨Nat.min_le_right _ _, fun h => ?_, fun h => ?_, step⟩, incident, marks, detector,
    sense, fun isPlain => ?_, claim, ?_, fun off => ?_⟩
  · show min x.attemptsLeft c.retryBudget = 0
    rw [locked h, Nat.zero_min]
  · exact Nat.le_min.mpr ⟨remains h, atLeast⟩
  · show (if x.config.kind = .reversing ∧ c.kind = .plain then _ else _) = _
    split
    · rfl
    · next still =>
      refine plain ?_
      rcases kind : x.config.kind with _ | _
      · rfl
      · exact absurd ⟨kind, isPlain⟩ still
  · show (if _ then _ else x.observedPeak).getD 0 ≤ 250
    split
    · exact Nat.zero_le _
    · exact peak
  · show (if _ then _ else x.observedPeak) = none
    split
    · rfl
    · next still =>
      refine learn ?_
      by_contra on
      exact still (.inr ⟨by simpa using on, by simp [show c.learnPeak = false from off]⟩)

theorem DistrictOk.later : DistrictOk (districtLater x) := by
  obtain ⟨config, ⟨switch, phase, claim, idle, time⟩, rest⟩ := ok
  refine ⟨config, ⟨switch, phase, claim, fun stopped => ?_, le_trans (Nat.sub_le _ _) time⟩, rest⟩
  show x.timerLeft - 1 = 0
  rw [idle stopped]

end

end Sys2Proof.Machine
end

section
/-! The laws of the district and feed records together: the claims that a feed holds, and the moves of the
records that keep the budget, the suspension of feeds and the parents' order. -/

namespace Sys2Proof.Machine

variable {s t : State} {d e : DistrictNo} {f : FeedNo} {x y : District} {z : Feed}

/-! ### Parents (R10) -/

theorem parentChainEnds_congr (same : ∀ d, (t.district d).config.parent = (s.district d).config.parent)
    (links : Nat) (d : DistrictNo) : parentChainEnds t links d = parentChainEnds s links d := by
  induction links generalizing d with
  | zero => rfl
  | succ links ih => simp only [parentChainEnds, same, ih]

theorem parentChainEnds_mono {m n : Nat} (le : m ≤ n) (ends : parentChainEnds s m d = true) :
    parentChainEnds s n d = true := by
  induction m generalizing n d with
  | zero => cases ends
  | succ m ih =>
    obtain ⟨n, rfl⟩ : ∃ k, n = k + 1 := ⟨n - 1, by omega⟩
    simp only [parentChainEnds] at ends ⊢
    split at ends
    · rfl
    · exact ih (by omega) ends

/-- A walk that has not ended goes on. -/
theorem ancestor_isSome {n links : Nat} (goesOn : parentChainEnds s n d = false) (le : links ≤ n) :
    (ancestor s links d).isSome = true := by
  induction links generalizing n d with
  | zero => rfl
  | succ links ih =>
    obtain ⟨n, rfl⟩ : ∃ k, n = k + 1 := ⟨n - 1, by omega⟩
    rw [ancestor_succ]
    simp only [parentChainEnds] at goesOn
    cases parent : (s.district d).config.parent with
    | none => simp [parent] at goesOn
    | some p =>
      rw [parent] at goesOn
      exact ih goesOn (by omega)

/-- A walk that ends at all ends within 24 links, for it never meets a district twice. -/
theorem parentChainEnds_bound {n : Nat} (ends : parentChainEnds s n d = true) :
    parentChainEnds s 24 d = true := by
  by_contra long
  have onWalk : ∀ i : Fin 25, ∃ e, ancestor s i.val d = some e := fun i =>
    Option.isSome_iff_exists.mp (ancestor_isSome (by simpa using long) (Nat.le_of_lt_succ i.isLt))
  choose place isPlace using onWalk
  obtain ⟨i, j, less, same⟩ : ∃ i j : Fin 25, i < j ∧ place i = place j := by
    obtain ⟨i, j, different, same⟩ := Fintype.exists_ne_map_eq_of_card_lt place (by simp)
    rcases lt_or_gt_of_ne different with less | less
    · exact ⟨i, j, less, same⟩
    · exact ⟨j, i, less, same.symm⟩
  obtain ⟨k, later⟩ : ∃ k, j.val = i.val + (k + 1) := ⟨j.val - i.val - 1, by
    have := Fin.lt_def.mp less
    omega⟩
  have step : ∀ m, ancestor s (i.val + m) d = ancestor s m (place i) := by
    intro m
    induction m with
    | zero => exact isPlace i
    | succ m ih => rw [← Nat.add_assoc, ancestor, ih]; rfl
  refine ancestor_ne_self (parentChainEnds_ancestor ends (isPlace i)).2 k ?_
  rw [← step, ← later, isPlace j, same]

/-- A legal parent closes no cycle (R10). -/
theorem parentsAcyclic_setDistrict (acyclic : ParentsAcyclic s)
    (legal : parentLegal s d y.config.parent = true) : ParentsAcyclic (s.setDistrict d y) := by
  have other : ∀ {e}, e ≠ d → (s.setDistrict d y).district e = s.district e := fun h => by simp [h]
  have clear : ∀ n q, chainClear s d n q = true → parentChainEnds (s.setDistrict d y) n q = true := by
    intro n
    induction n with
    | zero => exact fun q h => h
    | succ n ih =>
      intro q h
      simp only [chainClear, Bool.and_eq_true, bne_iff_ne] at h
      rw [parentChainEnds, other h.1]
      cases parent : (s.district q).config.parent with
      | none => rfl
      | some p => exact ih p (by simpa [parent] using h.2)
  by_cases same : y.config.parent = (s.district d).config.parent
  · intro e
    refine (parentChainEnds_congr (fun e => ?_) 24 e).trans (acyclic e)
    by_cases at_d : e = d
    · subst at_d
      simp [same]
    · rw [other at_d]
  have fromD : parentChainEnds (s.setDistrict d y) 25 d = true := by
    rw [parentChainEnds, State.district_setDistrict_self]
    cases parent : y.config.parent with
    | none => rfl
    | some p =>
      rw [parent] at legal same
      exact clear 24 p (by simpa [parentLegal, Ne.symm same] using legal)
  have all : ∀ n e, parentChainEnds s n e = true → parentChainEnds (s.setDistrict d y) (n + 25) e = true := by
    intro n
    induction n with
    | zero => exact fun e h => by cases h
    | succ n ih =>
      intro e h
      by_cases at_d : e = d
      · subst at_d
        exact parentChainEnds_mono (by omega) fromD
      · rw [show n + 1 + 25 = n + 25 + 1 by omega, parentChainEnds, other at_d]
        rw [parentChainEnds] at h
        split at h
        · rfl
        · exact ih _ h
  exact fun e => parentChainEnds_bound (all 24 e (acyclic e))

/-! ### The claims of a feed (R70) -/

/-- The claim that a record holds against a feed. -/
def claimOn (f : FeedNo) (x : District) : Nat := if x.config.feed = f then x.heldClaim.getD 0 else 0

theorem heldClaims_eq (s : State) (f : FeedNo) : heldClaims s f = ∑ d, claimOn f (s.district d) := by
  rw [Fin.sum_univ_def]
  simp [heldClaims, claimSum, allDistricts, claimOn]

theorem claimSum_eq (s : State) (chosen : District → Bool) (f : FeedNo) :
    claimSum s chosen f = ∑ d, if chosen (s.district d) then claimOn f (s.district d) else 0 := by
  rw [Fin.sum_univ_def]
  refine congrArg List.sum (List.map_congr_left fun d _ => ?_)
  cases chosen (s.district d) <;> simp [claimOn]

/-- One record changes: its claim goes out of the sum and the new one comes in. -/
theorem heldClaims_move (only : ∀ e, e ≠ d → t.district e = s.district e) (f : FeedNo) :
    heldClaims t f + claimOn f (s.district d) = heldClaims s f + claimOn f (t.district d) := by
  have rest : ∑ e ∈ Finset.univ.erase d, claimOn f (t.district e) =
      ∑ e ∈ Finset.univ.erase d, claimOn f (s.district e) :=
    Finset.sum_congr rfl fun e he => by rw [only e (Finset.ne_of_mem_erase he)]
  have after := Finset.sum_erase_add _ (fun e => claimOn f (t.district e)) (Finset.mem_univ d)
  have before := Finset.sum_erase_add _ (fun e => claimOn f (s.district e)) (Finset.mem_univ d)
  rw [heldClaims_eq, heldClaims_eq]
  omega

/-! ### The records together -/

/-- The laws of the district and feed records that the events move together. -/
structure TrackOk (s : State) : Prop where
  districts : ∀ d, DistrictOk (s.district d)
  parents : ParentsAcyclic s
  feeds : ∀ f, FeedOk (s.feed f)
  budget : BudgetKept s
  down : DownFeedsUnpowered s

theorem TrackOk.congr (ok : TrackOk s) (districts : ∀ d, t.district d = s.district d)
    (feeds : ∀ f, t.feed f = s.feed f) : TrackOk t where
  districts d := districts d ▸ ok.districts d
  parents d := (parentChainEnds_congr (fun e => by rw [districts]) 24 d).trans (ok.parents d)
  feeds f := feeds f ▸ ok.feeds f
  budget f := by
    have same : heldClaims t f = heldClaims s f := by simp only [heldClaims_eq, districts]
    rw [feeds, same]
    exact ok.budget f
  down d := by rw [districts, feeds]; exact ok.down d

/-- A feed's record holds its laws whatever its held sum. -/
theorem FeedOk.heldSum (ok : FeedOk z) (n : Nat) : FeedOk { z with heldSum := n } := ok

section
variable (ok : TrackOk s)
include ok

/-- A record changes and keeps its claim; its feed changes only while its switch is open. -/
theorem TrackOk.setDistrict (record : DistrictOk y)
    (legal : y.config.parent = (s.district d).config.parent ∨ parentLegal s d y.config.parent = true)
    (claim : y.heldClaim = (s.district d).heldClaim)
    (feed : y.config.feed = (s.district d).config.feed ∧
        (closedState y = true → closedState (s.district d) = true) ∨
      (s.district d).heldClaim = none ∧ closedState y = false) : TrackOk (s.setDistrict d y) := by
  have here : (s.setDistrict d y).district d = y := State.district_setDistrict_self ..
  have other : ∀ e, e ≠ d → (s.setDistrict d y).district e = s.district e := fun e h => by simp [h]
  refine ⟨fun e => ?_, ?_, ok.feeds, fun f => ?_, fun e off => ?_⟩
  · by_cases at_d : e = d
    · subst at_d
      rw [here]
      exact record
    · exact other e at_d ▸ ok.districts e
  · rcases legal with same | legal
    · refine fun e => (parentChainEnds_congr (fun e => ?_) 24 e).trans (ok.parents e)
      by_cases at_d : e = d
      · subst at_d
        rw [here, same]
      · rw [other e at_d]
    · exact parentsAcyclic_setDistrict ok.parents legal
  · have claims : claimOn f y = claimOn f (s.district d) := by
      rcases feed with ⟨feed, -⟩ | ⟨none, -⟩
      · simp [claimOn, claim, feed]
      · simp [claimOn, claim, none]
    have moved := heldClaims_move other f
    rw [here, claims] at moved
    have same : heldClaims (s.setDistrict d y) f = heldClaims s f := by omega
    rw [same]
    exact ok.budget f
  · by_cases at_d : e = d
    · subst at_d
      rw [here] at off ⊢
      rcases feed with ⟨feed, closed⟩ | ⟨-, isOpen⟩
      · refine eq_false_of_ne_true fun h => ?_
        rw [feed] at off
        have isOpen := ok.down e off
        rw [closed h] at isOpen
        cases isOpen
      · exact isOpen
    · rw [other e at_d] at off ⊢
      exact ok.down e off

/-- A record changes, its claim returned to its feed (R71). -/
theorem TrackOk.release (record : DistrictOk y) (config : y.config = (s.district d).config)
    (claim : y.heldClaim = none) (closed : closedState y = true → closedState (s.district d) = true) :
    TrackOk ((releaseClaim d s).setDistrict d y) := by
  have here : ((releaseClaim d s).setDistrict d y).district d = y := State.district_setDistrict_self ..
  have other : ∀ e, e ≠ d → ((releaseClaim d s).setDistrict d y).district e = s.district e :=
      fun e h => by simp [h]
  have feeds : ∀ f, ((releaseClaim d s).setDistrict d y).feed f =
      { s.feed f with heldSum := (s.feed f).heldSum - claimOn f (s.district d) } := by
    intro f
    rw [State.setDistrict_feed, releaseClaim_feed]
    by_cases at_f : f = (s.district d).config.feed
    · simp [claimOn, at_f]
    · simp [claimOn, at_f, Ne.symm at_f]
  refine ⟨fun e => ?_, ?_, fun f => feeds f ▸ (ok.feeds f).heldSum _, fun f => ?_, fun e off => ?_⟩
  · by_cases at_d : e = d
    · subst at_d
      rw [here]
      exact record
    · exact other e at_d ▸ ok.districts e
  · refine fun e => (parentChainEnds_congr (fun e => ?_) 24 e).trans (ok.parents e)
    by_cases at_d : e = d
    · subst at_d
      rw [here, config]
    · rw [other e at_d]
  · have moved := heldClaims_move other f
    have nothing : claimOn f y = 0 := by simp [claimOn, claim]
    obtain ⟨sum, within⟩ := ok.budget f
    rw [here, nothing] at moved
    rw [feeds]
    dsimp only
    omega
  · rw [feeds] at off
    by_cases at_d : e = d
    · subst at_d
      rw [here] at off ⊢
      refine eq_false_of_ne_true fun h => ?_
      rw [config] at off
      have isOpen := ok.down e off
      rw [closed h] at isOpen
      cases isOpen
    · rw [other e at_d] at off ⊢
      exact ok.down e off

/-- Chosen records change together, their switches opened and their claims returned (R45, R75). -/
theorem TrackOk.withdraw {chosen : District → Bool} {change : District → District}
    (record : ∀ x, DistrictOk x → chosen x = true → DistrictOk (change x))
    (out : ∀ x, (change x).config = x.config ∧ (change x).heldClaim = none ∧ closedState (change x) = false) :
    TrackOk (withdraw chosen change s) := by
  have config : ∀ e, ((Machine.withdraw chosen change s).district e).config = (s.district e).config := by
    intro e
    rw [withdraw_district]
    split
    · exact (out _).1
    · rfl
  refine ⟨fun e => ?_, fun e => ?_, fun f => ?_, fun f => ?_, fun e off => ?_⟩
  · rw [withdraw_district]
    split
    · next isChosen => exact record _ (ok.districts e) isChosen
    · exact ok.districts e
  · exact (parentChainEnds_congr (fun e => by rw [config]) 24 e).trans (ok.parents e)
  · exact withdraw_feed s chosen change f ▸ (ok.feeds f).heldSum _
  · have split : heldClaims s f = heldClaims (Machine.withdraw chosen change s) f + claimSum s chosen f := by
      rw [heldClaims_eq, heldClaims_eq, claimSum_eq, ← Finset.sum_add_distrib]
      refine Finset.sum_congr rfl fun e _ => ?_
      rw [withdraw_district]
      split
      · simp [claimOn, (out _).2.1]
      · simp
    obtain ⟨sum, within⟩ := ok.budget f
    rw [withdraw_feed]
    dsimp only
    omega
  · rw [config, withdraw_feed] at off
    rw [withdraw_district]
    split
    · exact (out _).2.2
    · exact ok.down e off

/-- A feed's record changes and keeps its held sum; it leaves Normal only with no powered member. -/
theorem TrackOk.setFeed (record : FeedOk z) (sum : z.heldSum = (s.feed f).heldSum)
    (room : z.heldSum ≤ z.allowance) (down : z.state ≠ .normal → (s.feed f).state ≠ .normal ∨
      ∀ d, (s.district d).config.feed = f → closedState (s.district d) = false) :
    TrackOk (s.setFeed f z) := by
  refine ⟨ok.districts, ok.parents, fun g => ?_, fun g => ?_, fun d off => ?_⟩
  · rw [State.feed_setFeed]
    split
    · exact record
    · exact ok.feeds g
  · have same : heldClaims (s.setFeed f z) g = heldClaims s g := rfl
    rw [State.feed_setFeed, same]
    split
    · next at_f =>
      subst at_f
      exact ⟨sum.trans (ok.budget g).1, room⟩
    · exact ok.budget g
  · rw [State.setFeed_district, State.feed_setFeed] at off
    split at off
    · next at_f =>
      rcases down off with before | unpowered
      · exact ok.down d (at_f ▸ before)
      · exact unpowered d at_f
    · exact ok.down d off

end

end Sys2Proof.Machine
end

section
/-! The laws of the part beside the Link Interface and its outputs: every event outside the Link Interface
keeps them. -/

namespace Sys2Proof.Machine

variable {s t u : State} {c : Instr} {d : DistrictNo} {f : FeedNo} {x y : District}

/-! ### The part -/

/-- The laws of every block but the Link Interface and the status outputs. -/
structure PartOk (s : State) : Prop where
  track : TrackOk s
  lines : LineLevelsRead s
  numbering : NumberingOk s
  beats : BeatsOk s
  counters : CountersInRange s
  notices : s.notices.entries.length ≤ 48

/-- No feed's line is read, and the blocks beside the records keep their laws. -/
structure RestKept (s t : State) : Prop where
  lines : ∀ f, (t.feed f).lineLevel = (s.feed f).lineLevel ∧ (t.feed f).faultLevel = (s.feed f).faultLevel
  pins : t.pins = s.pins
  numbering : NumberingOk s → NumberingOk t
  beats : BeatsOk s → BeatsOk t
  counters : CountersInRange s → CountersInRange t
  notices : s.notices.entries.length ≤ 48 → t.notices.entries.length ≤ 48

theorem RestKept.refl (s : State) : RestKept s s := ⟨fun _ => ⟨rfl, rfl⟩, rfl, id, id, id, id⟩

theorem RestKept.trans (h : RestKept s t) (k : RestKept t u) : RestKept s u where
  lines f := ⟨(k.lines f).1.trans (h.lines f).1, (k.lines f).2.trans (h.lines f).2⟩
  pins := k.pins.trans h.pins
  numbering := k.numbering ∘ h.numbering
  beats := k.beats ∘ h.beats
  counters := k.counters ∘ h.counters
  notices := k.notices ∘ h.notices

theorem faultLineOf_congr (pins : t.pins = s.pins) (level : (t.feed f).faultLevel = (s.feed f).faultLevel) :
    faultLineOf t f = faultLineOf s f := by
  simp only [faultLineOf, pins, level]

theorem held_congr (pins : t.pins = s.pins) : t.held = s.held := by
  rw [State.held, State.held, pins]

theorem PartOk.of_track (ok : PartOk s) (track : TrackOk t) (rest : RestKept s t) : PartOk t where
  track := track
  lines free f := by
    rw [(rest.lines f).1, faultLineOf_congr rest.pins (rest.lines f).2]
    exact ok.lines (held_congr rest.pins ▸ free) f
  numbering := rest.numbering ok.numbering
  beats := rest.beats ok.beats
  counters := rest.counters ok.counters
  notices := rest.notices ok.notices

/-- What the Link Interface does keeps the laws of the part, but for the notices. -/
theorem PartOk.of_link (ok : PartOk s) (alone : LinkAlone s t)
    (notices : s.notices.entries.length ≤ 48 → t.notices.entries.length ≤ 48) : PartOk t := by
  refine ok.of_track (ok.track.congr alone.district alone.feed)
    ⟨fun f => by rw [alone.feed]; exact ⟨rfl, rfl⟩, alone.outside.pins, fun h => ?_, fun h => ?_,
      fun h i => ?_, notices⟩
  · simpa only [NumberingOk, alone.nextIncident, alone.incidentWrap] using h
  · simpa only [BeatsOk, alone.beats, alone.outside.held] using h
  · rw [State.counter, alone.bank]
    exact h i

/-- Writes of a record alone keep the rest. -/
theorem rest_setDistrict : RestKept s (s.setDistrict d x) := ⟨fun _ => ⟨rfl, rfl⟩, rfl, id, id, id, id⟩

theorem rest_releaseClaim : RestKept s ((releaseClaim d s).setDistrict d x) := by
  refine ⟨fun f => ?_, rfl, id, id, id, id⟩
  rw [State.setDistrict_feed, releaseClaim_feed]
  split <;> exact ⟨rfl, rfl⟩

theorem rest_withdraw (chosen : District → Bool) (change : District → District) :
    RestKept s (withdraw chosen change s) := by
  refine ⟨fun f => ?_, rfl, id, id, id, id⟩
  rw [withdraw_feed]
  exact ⟨rfl, rfl⟩

/-- Notices that are handed keep the queue within 48 (R168). -/
theorem rest_handAll (made : List Notice) : RestKept s { s with notices := handAll made s.notices } :=
  ⟨fun _ => ⟨rfl, rfl⟩, rfl, id, id, id, handAll_bound made _⟩

theorem countersInRange_counted (run : List CounterIx) (h : CountersInRange s) :
    CountersInRange { s with bank := countedBank s run } := by
  intro i
  have read : ({ s with bank := countedBank s run } : State).counter i =
      if i ∈ run then (countUp s.bank.mode (s.counter i)).1 else s.counter i := by
    simp [State.counter, countedBank]
  rw [read]
  split
  · exact countUp_range _ _ (h i)
  · exact h i

/-- Counters that are incremented stay within their range (R114). -/
theorem rest_counted (run : List CounterIx) : RestKept s { s with bank := countedBank s run } :=
  ⟨fun _ => ⟨rfl, rfl⟩, rfl, id, id, countersInRange_counted run, id⟩

/-- A write of the blocks beside the records and the pins. -/
theorem PartOk.rest (ok : PartOk s) (rest : RestKept s t) (districts : ∀ d, t.district d = s.district d)
    (feeds : ∀ f, t.feed f = s.feed f) : PartOk t :=
  ok.of_track (ok.track.congr districts feeds) rest

theorem PartOk.handAll (ok : PartOk s) (made : List Notice) :
    PartOk { s with notices := Machine.handAll made s.notices } :=
  ok.rest (rest_handAll made) (fun _ => rfl) (fun _ => rfl)

theorem PartOk.counted (ok : PartOk s) (run : List CounterIx) : PartOk { s with bank := countedBank s run } :=
  ok.rest (rest_counted run) (fun _ => rfl) (fun _ => rfl)

theorem PartOk.numbered (ok : PartOk s) {n : Nat} (numbering : NumberingOk { s with nextIncident := n }) :
    PartOk { s with nextIncident := n } :=
  ok.rest ⟨fun _ => ⟨rfl, rfl⟩, rfl, fun _ => numbering, id, id, id⟩ (fun _ => rfl) (fun _ => rfl)

/-! ### Samples and expiries -/

/-- The incident numbers of a trip lie within the sequence (R16, R61). -/
theorem tripIncident_fits (ok : NumberingOk s) (record : DistrictOk x) : tripIncident s x ≤ 65535 := by
  obtain ⟨-, -, -, ⟨-, number, -⟩, -⟩ := record
  obtain ⟨-, next, wrap⟩ := ok
  unfold tripIncident
  split_ifs <;> omega

theorem numbering_incidentAfter (x : District) (ok : NumberingOk s) :
    NumberingOk { s with nextIncident := incidentAfter s x } := by
  obtain ⟨first, next, wrap⟩ := ok
  have range : 1 ≤ incidentAfter s x ∧ incidentAfter s x ≤ max 1 s.incidentWrap := by
    unfold incidentAfter
    split_ifs <;> omega
  exact ⟨range.1, range.2, wrap⟩

/-- The claim of a record that has just been written. -/
theorem releaseClaim_setDistrict_self : (releaseClaim d (s.setDistrict d y)).setDistrict d x =
    (s.setFeed y.config.feed
      { s.feed y.config.feed with
        heldSum := (s.feed y.config.feed).heldSum - y.heldClaim.getD 0 }).setDistrict d x := by
  rw [releaseClaim_of (State.district_setDistrict_self ..), State.setDistrict_setDistrict,
    State.setFeed_setDistrict, State.setDistrict_setDistrict]
  rfl

/-- A trip of a district whose record the detector left as `y`. -/
theorem tripDistrict_ok (ok : PartOk (s.setDistrict d y)) (isClosed : closedState y = true)
    {cause : TripCause} {value : Nat} {beyond : Bool} :
    PartOk (tripDistrict d cause value beyond (s.setDistrict d y)) := by
  have here : (s.setDistrict d y).district d = y := State.district_setDistrict_self ..
  have record : DistrictOk y := here ▸ ok.track.districts d
  have fits : tripIncident s y ≤ 65535 := tripIncident_fits ok.numbering record
  have kept : (trippedRecord cause (tripIncident s y) y).config = y.config ∧
      (trippedRecord cause (tripIncident s y) y).heldClaim = none := by
    unfold trippedRecord afterTrip
    split_ifs <;> exact ⟨rfl, rfl⟩
  have moved : PartOk ((releaseClaim d (s.setDistrict d y)).setDistrict d
      (trippedRecord cause (tripIncident s y) y)) := by
    refine ok.of_track (ok.track.release (record.tripped fits) ?_ kept.2 fun _ => ?_) rest_releaseClaim
    · rw [here, kept.1]
    · rw [here]; exact isClosed
  rw [releaseClaim_setDistrict_self] at moved
  rw [tripDistrict_eq]
  exact ((moved.numbered (numbering_incidentAfter y moved.numbering)).counted _).handAll _

theorem takeSample_ok (ok : PartOk s) {value : Nat} (range : value ≤ 4095) (beyond : Bool) :
    PartOk (takeSample d value beyond s) := by
  have record := (ok.track.districts d).sensed range beyond
  rcases isClosed : (s.district d).switchClosed with _ | _
  · rw [takeSample_open isClosed]
    exact ok.of_track (ok.track.setDistrict record (.inl rfl) rfl (.inl ⟨rfl, id⟩)) rest_setDistrict
  · rw [takeSample_closed isClosed]
    obtain ⟨a, g, b, p, moved, acc, run, plain⟩ := evaluateSample_moves record value
    rcases evaluated : evaluateSample value (sensed (s.district d) value beyond) with ⟨y, verdict⟩
    rw [evaluated] at moved
    dsimp only at moved
    have evaluatedOk : DistrictOk y := moved ▸ record.detector acc run isClosed plain
    have written : PartOk (s.setDistrict d y) := by
      refine ok.of_track (ok.track.setDistrict evaluatedOk (.inl ?_) ?_ (.inl ⟨?_, ?_⟩)) rest_setDistrict <;>
        rw [moved]
      · rfl
      · rfl
      · rfl
      · exact id
    have powered : closedState y = true := by
      rw [moved]
      exact (switchClosed_eq (ok.track.districts d)).symm.trans isClosed
    cases verdict with
    | pass => exact written
    | flip =>
      simp only [flipDistrict, makeNotice_increment]
      exact (written.counted _).handAll _
    | trip cause => exact tripDistrict_ok written powered

theorem settleDistrict_ok (ok : PartOk s) (settling : (s.district d).state = .settling) :
    PartOk (settleDistrict d s) := by
  have record := ok.track.districts d
  have powered : closedState (s.district d) = true := by simp [closedState, settling]
  by_cases time : (s.district d).config.provingTime = 0
  · obtain ⟨peak, learn⟩ := learnedPeak_range record
    rw [settleDistrict_energized time]
    have track := ok.track.release (record.energized powered peak learn) rfl rfl fun _ => powered
    have moved := ok.of_track track rest_releaseClaim
    exact moved.handAll _
  · rw [settleDistrict_proving time]
    exact ok.of_track (ok.track.release (record.proving settling) rfl rfl fun _ => powered) rest_releaseClaim

theorem proveDistrict_ok (ok : PartOk s) (proving : (s.district d).state = .proving) :
    PartOk (proveDistrict d s) := by
  have record := ok.track.districts d
  have powered : closedState (s.district d) = true := by simp [closedState, proving]
  have claim : (s.district d).heldClaim = none := heldClaim_of_not_settling record (by simp [proving])
  have proven : DistrictOk (provenRecord (s.district d)) := by
    have whole := record
    obtain ⟨-, -, -, -, -, -, -, -, -, peak, learn⟩ := whole
    have energized := record.energized powered peak learn
    rw [← claim] at energized
    exact energized
  rw [proveDistrict_eq]
  have moved := ok.of_track (ok.track.setDistrict proven (.inl rfl) rfl (.inl ⟨rfl, fun _ => powered⟩))
    rest_setDistrict
  exact moved.handAll _

theorem backoffOver_ok (ok : PartOk s) (waiting : (s.district d).state = .backoff) :
    PartOk (s.setDistrict d (backoffOver (s.district d))) :=
  ok.of_track (ok.track.setDistrict ((ok.track.districts d).backoffOver waiting) (.inl rfl) rfl
    (.inl ⟨rfl, fun powered => by cases powered⟩)) rest_setDistrict

/-! ### Beats -/

/-- A beat's launches bring their claims into their feeds' sums, within the free budget (R70, R90). -/
theorem takeBeat_track (ok : TrackOk s) : TrackOk (takeBeat s) := by
  have left : ∀ d, (takeBeat s).district d =
      if d ∈ (walk s).launched then launchRecord (claimOf s d) (s.district d) else s.district d := fun d =>
    (takeBeat_district s d).trans ((walk_state s).district d)
  have candidates : ∀ d ∈ (walk s).launched, (s.district d).state = .ready ∧
      (s.feed (s.district d).config.feed).state = .normal := fun d hd => by
    have isCandidate := candidate_of_mem_walkOrder (mem_walkOrder_of_launchedAt (launchedAt_iff_walk.mpr hd))
    obtain ⟨ready, -, normal⟩ := readyToLaunch_iff.mp (readyToLaunch_of_candidate isCandidate)
    exact ⟨ready, normal⟩
  have config : ∀ d, ((takeBeat s).district d).config = (s.district d).config := fun d => by
    rw [left]
    split <;> rfl
  have fits : ∀ d, claimOf s d ≤ 250 := fun d => by
    obtain ⟨⟨-, allowance⟩, -⟩ := ok.feeds (s.district d).config.feed
    exact le_trans (Nat.min_le_right _ _) allowance
  refine ⟨fun d => ?_, fun d => ?_, fun f => ?_, fun f => ?_, fun d off => ?_⟩
  · rw [left]
    split
    · exact (ok.districts d).launched (fits d)
    · exact ok.districts d
  · exact (parentChainEnds_congr (fun e => by rw [config]) 24 d).trans (ok.parents d)
  · exact takeBeat_feed s f ▸ (ok.feeds f).heldSum _
  · have launched : claimsOn s f (walk s).launched =
        ∑ d, if d ∈ (walk s).launched ∧ (s.district d).config.feed = f then claimOf s d else 0 := by
      rw [claimsOn, onFeed, ← List.sum_toFinset _ ((walk_launched_nodup s).filter _), ← Finset.sum_filter]
      refine Finset.sum_congr (Finset.ext fun d => ?_) fun _ _ => rfl
      simp
    have sums : heldClaims (takeBeat s) f = heldClaims s f + claimsOn s f (walk s).launched := by
      rw [heldClaims_eq, heldClaims_eq, launched, ← Finset.sum_add_distrib]
      refine Finset.sum_congr rfl fun d _ => ?_
      rw [left]
      by_cases isLaunched : d ∈ (walk s).launched
      · have claim : (s.district d).heldClaim = none :=
          heldClaim_of_not_settling (ok.districts d) (by simp [(candidates d isLaunched).1])
        simp [isLaunched, claimOn, claim, launchRecord]
      · simp [isLaunched]
    obtain ⟨sum, within⟩ := ok.budget f
    obtain ⟨-, budget⟩ := walk_within s f
    rw [takeBeat_feed]
    dsimp only
    omega
  · rw [config, takeBeat_feed] at off
    rw [left]
    split
    · next isLaunched => exact absurd (candidates d isLaunched).2 off
    · exact ok.down d off

theorem takeBeat_ok (ok : PartOk s) : PartOk (takeBeat s) := by
  have keeps := takeBeat_keeps s
  obtain ⟨r, whole, -⟩ := takeBeat_eq s
  refine ok.of_track (takeBeat_track ok.track) ⟨fun f => ?_, keeps.pins, fun h => ?_, fun h => ?_,
    fun h i => ?_, fun h => ?_⟩
  · rw [takeBeat_feed]
    exact ⟨rfl, rfl⟩
  · simpa only [NumberingOk, keeps.nextIncident, keeps.incidentWrap] using h
  · simpa only [BeatsOk, keeps.beats, held_congr keeps.pins] using h
  · rw [takeBeat_counter, (walk_state s).counter]
    split
    · exact countUp_range _ _ (h i)
    · exact h i
  · have made : (takeBeat s).notices = (walk s).state.notices := by rw [whole]
    rw [made, (walk_state s).notices]
    exact handAll_bound _ _ h

/-- The Beat Generator may be written within its laws. -/
theorem PartOk.setBeats (ok : PartOk s) {b : BeatGenerator} (beats : BeatsOk (s.setBeats b)) :
    PartOk (s.setBeats b) :=
  ok.rest ⟨fun _ => ⟨rfl, rfl⟩, rfl, id, fun _ => beats, id, id⟩ (fun _ => rfl) (fun _ => rfl)

theorem produceBeat_ok (ok : PartOk s) : PartOk (produceBeat s) := by
  refine takeBeat_ok (ok.setBeats ?_)
  obtain ⟨interval, spacing, timer, -, running⟩ := ok.beats
  refine ⟨interval, spacing, ?_, le_refl _, fun free => ?_⟩
  · show (if s.beats.mode = .internal then some
      (msTicks s.beats.interval) else s.beats.intervalTimer).getD 0 ≤ _
    split
    · exact Nat.mul_le_mul_right _ interval.2
    · exact timer
  · show (if s.beats.mode = .internal then some
      (msTicks s.beats.interval) else s.beats.intervalTimer).isSome = _
    split
    · next mode => exact (beq_iff_eq.mpr mode).symm
    · exact running free

theorem pulseOver_ok (ok : PartOk s) : PartOk (s.setBeats { s.beats with pulseTimer := none }) := by
  obtain ⟨interval, spacing, timer, -, running⟩ := ok.beats
  exact ok.setBeats ⟨interval, spacing, timer, Nat.zero_le _, running⟩

/-! ### Feeds -/

/-- What a suspension leaves of the records: the powered members out, and then the feed Suspended. -/
theorem feedAsserted_track (ok : TrackOk s) (f : FeedNo) : TrackOk (feedAsserted s f) := by
  have out := ok.withdraw (chosen := isPoweredMember f) (change := returnedToReady)
    (fun x record member => record.returnedToReady (Bool.and_eq_true_iff.mp member).2)
      (fun x => ⟨rfl, rfl, rfl⟩)
  have unpowered : ∀ d, ((withdraw (isPoweredMember f) returnedToReady s).district d).config.feed = f →
      closedState ((withdraw (isPoweredMember f) returnedToReady s).district d) = false := by
    intro d onFeed
    rw [withdraw_district] at onFeed ⊢
    split
    · rfl
    · next other =>
      rw [if_neg other] at onFeed
      simpa [isPoweredMember, onFeed] using other
  have before := out.feeds f
  obtain ⟨allowance, width, delay, -, -, -⟩ := before
  have suspended := out.setFeed (f := f)
    (z := { (withdraw (isPoweredMember f) returnedToReady s).feed f with
      state := .suspended, resumeTimer := none, lineLevel := .asserted })
    ⟨allowance, width, delay, rfl, Nat.zero_le _, Iff.intro (fun _ => rfl) (fun _ => rfl)⟩ rfl
      (out.budget f).2
    fun _ => .inr unpowered
  refine suspended.congr (fun d => ?_) fun g => ?_
  · rw [feedAsserted_district, State.setFeed_district, withdraw_district]
  · rw [feedAsserted_feed, State.feed_setFeed]
    split
    · rw [withdraw_feed]
    · next other =>
      rw [withdraw_feed, claimSum_isPoweredMember_ne other]
      rfl

/-- A feed that has taken a level stands as its line does; the others are left. -/
theorem takeLineLevel_feed (level : LineLevel) (s : State) (f : FeedNo) :
    ((takeLineLevel f level s).feed f).lineLevel = level ∧
      ((takeLineLevel f level s).feed f).faultLevel = (s.feed f).faultLevel ∧
      ∀ g, g ≠ f → (takeLineLevel f level s).feed g = s.feed g := by
  rcases level with _ | _
  · by_cases down : (s.feed f).state = .suspended
    · rw [takeLineLevel_released down]
      exact ⟨by simp [feedReleased], by simp [feedReleased], fun g other => by simp [feedReleased, other]⟩
    · rw [takeLineLevel_recorded (.inr ⟨rfl, down⟩)]
      exact ⟨by simp, by simp, fun g other => by simp [other]⟩
  · by_cases down : (s.feed f).state = .suspended
    · rw [takeLineLevel_recorded (.inl ⟨rfl, down⟩)]
      exact ⟨by simp, by simp, fun g other => by simp [other]⟩
    · rw [takeLineLevel_asserted down]
      have self := feedAsserted_feed s f f
      rw [if_pos rfl] at self
      exact ⟨(congrArg Feed.lineLevel self :), (congrArg Feed.faultLevel self :),
        fun g other => (feedAsserted_feed s f g).trans (if_neg other)⟩

theorem takeLineLevel_track (ok : TrackOk s) (f : FeedNo) (level : LineLevel) :
    TrackOk (takeLineLevel f level s) := by
  obtain ⟨allowance, width, delay, timer, time, line⟩ := ok.feeds f
  have room := (ok.budget f).2
  rcases level with _ | _
  · by_cases down : (s.feed f).state = .suspended
    · rw [takeLineLevel_released down]
      refine ok.setFeed ⟨allowance, width, delay, rfl, ?_, by simp⟩ rfl room fun _ => .inl (by simp [down])
      exact Nat.mul_le_mul_right _ (by omega)
    · rw [takeLineLevel_recorded (.inr ⟨rfl, down⟩)]
      exact ok.setFeed ⟨allowance, width, delay, timer, time, by simp [down]⟩ rfl room .inl
  · by_cases down : (s.feed f).state = .suspended
    · rw [takeLineLevel_recorded (.inl ⟨rfl, down⟩)]
      exact ok.setFeed ⟨allowance, width, delay, timer, time, by simp [down]⟩ rfl room .inl
    · rw [takeLineLevel_asserted down]
      exact (feedAsserted_track ok f).congr (fun _ => rfl) (fun _ => rfl)

/-- Beside the records a line level that is taken moves the counters and notices of an assertion alone. -/
theorem takeLineLevel_rest (level : LineLevel) (s : State) (f : FeedNo) :
    (takeLineLevel f level s).pins = s.pins ∧
      (NumberingOk s → NumberingOk (takeLineLevel f level s)) ∧
      (BeatsOk s → BeatsOk (takeLineLevel f level s)) ∧
      (CountersInRange s → CountersInRange (takeLineLevel f level s)) ∧
      (s.notices.entries.length ≤ 48 → (takeLineLevel f level s).notices.entries.length ≤ 48) := by
  rcases level with _ | _
  · by_cases down : (s.feed f).state = .suspended
    · rw [takeLineLevel_released down]
      exact ⟨rfl, id, id, id, id⟩
    · rw [takeLineLevel_recorded (.inr ⟨rfl, down⟩)]
      exact ⟨rfl, id, id, id, id⟩
  · by_cases down : (s.feed f).state = .suspended
    · rw [takeLineLevel_recorded (.inl ⟨rfl, down⟩)]
      exact ⟨rfl, id, id, id, id⟩
    · rw [takeLineLevel_asserted down]
      exact ⟨rfl, id, id, countersInRange_counted _, handAll_bound _ _⟩

/-- A line level that is taken is the one that the line stands at; the other feeds' lines have been read
before. -/
theorem takeLineLevel_ok (track : TrackOk s) (numbering : NumberingOk s) (beats : BeatsOk s)
    (counters : CountersInRange s) (notices : s.notices.entries.length ≤ 48)
    (others : s.held = false → ∀ g, g ≠ f → (s.feed g).lineLevel = faultLineOf s g) :
    PartOk (takeLineLevel f (faultLineOf s f) s) := by
  obtain ⟨pins, numbering', beats', counters', notices'⟩ := takeLineLevel_rest (faultLineOf s f) s f
  obtain ⟨line, level, feeds⟩ := takeLineLevel_feed (faultLineOf s f) s f
  refine ⟨takeLineLevel_track track f _, fun free g => ?_, numbering' numbering, beats' beats,
    counters' counters, notices' notices⟩
  by_cases at_f : g = f
  · subst at_f
    rw [line, faultLineOf_congr pins level]
  · rw [feeds g at_f, faultLineOf_congr pins (by rw [feeds g at_f])]
    exact others (held_congr pins ▸ free) g at_f

theorem setFaultPin_track (ok : TrackOk s) (f : FeedNo) (level : Level) : TrackOk (setFaultPin f level s) :=
  ok.congr (fun _ => rfl) (fun _ => rfl)

theorem faultEdge_ok (ok : PartOk s) (f : FeedNo) (level : Level) :
    PartOk (takeLineLevel f (readFault (s.feed f).faultLevel level) (setFaultPin f level s)) := by
  have read : readFault (s.feed f).faultLevel level = faultLineOf (setFaultPin f level s) f := by
    simp [faultLineOf, setFaultPin, State.feed]
  rw [read]
  refine takeLineLevel_ok (setFaultPin_track ok.track f level) ok.numbering ok.beats ok.counters ok.notices ?_
  intro free g other
  have still : faultLineOf (setFaultPin f level s) g = faultLineOf s g := by
    have apart : f.val ≠ g.val := fun same => other (Fin.ext same.symm)
    simp [faultLineOf, setFaultPin, State.feed, apart]
  rw [still]
  exact ok.lines free g

theorem resumeFeed_ok (ok : PartOk s) (resuming : (s.feed f).state = .resuming) :
    PartOk (resumeFeed f s) := by
  obtain ⟨allowance, width, delay, -, -, line⟩ := ok.track.feeds f
  have asserted : (s.feed f).lineLevel ≠ .asserted := fun h => by
    have := line.mp h
    rw [resuming] at this
    cases this
  have resumed := ok.of_track (t := s.setFeed f { s.feed f with state := .normal, resumeTimer := none })
    (ok.track.setFeed ⟨allowance, width, delay, rfl, Nat.zero_le _, by simp [asserted]⟩ rfl
      (ok.track.budget f).2 fun off => absurd rfl off)
    ⟨fun g => by rw [State.feed_setFeed]; split <;> simp_all, rfl, id, id, id, id⟩
  rw [resumeFeed, makeNotice_eq]
  exact resumed.handAll [_]

/-! ### Every event outside the Link Interface -/

theorem partEvent_ok (ok : PartOk s) (event : PartEvent s c u) : PartOk u := by
  cases event with
  | sample d value beyond => exact takeSample_ok ok (Nat.le_of_lt_succ value.isLt) beyond
  | settle d state => exact settleDistrict_ok ok state
  | proving d state => exact proveDistrict_ok ok state
  | backoff d state => exact backoffOver_ok ok state
  | interval => exact produceBeat_ok ok
  | beatInput => exact produceBeat_ok ok
  | pulse => exact pulseOver_ok ok
  | faultEdge f level => exact faultEdge_ok ok f level
  | resume f state => exact resumeFeed_ok ok state

end Sys2Proof.Machine
end

section
/-! The answers of the owners keep the laws of the part: one lemma a request that changes something. -/

namespace Sys2Proof.Machine

variable {s t : State} {d : DistrictNo} {f : FeedNo} {body : List Byte}

/-- The transmitter's choice takes a notice out of the queue, if it touches it at all. -/
theorem afterChoice_notices (l : Link) (q : NoticeQueue) (h : q.entries.length ≤ 48) :
    (afterChoice l q).2.entries.length ≤ 48 := by
  unfold afterChoice
  split
  · exact h
  · exact h
  · next entries =>
    split
    · rw [entries, List.length_cons] at h
      exact Nat.le_of_succ_le h
    · exact h
  · exact h

section
variable (ok : PartOk s)
include ok

/-! ### Districts -/

theorem configureDistrict_ok : PartOk (answerConfigureDistrict body s).state := by
  unfold answerConfigureDistrict
  split
  · next d c _ _ =>
    dsimp only
    split
    · exact ok
    · next legal =>
      split
      · exact ok
      · next allowed =>
        have record := ok.track.districts d
        have written := record.reconfigured (clampConfig_inRange c)
        refine ok.of_track
          (ok.track.setDistrict written
            (.inr (show parentLegal s d c.parent = true by simpa using legal)) rfl ?_) rest_setDistrict
        by_cases off : (s.district d).state = .off
        · refine .inr ⟨heldClaim_of_not_settling record (by simp [off]), ?_⟩
          show closedState (s.district d) = false
          simp [closedState, off]
        · refine .inl ⟨?_, id⟩
          have unchanged : changesRestricted (s.district d).config c ≠ true := fun changed =>
            allowed (by simp [changed, off])
          rw [Ne, changesRestricted_iff, not_or, not_not] at unchanged
          exact unchanged.1
  · exact ok

theorem on_ok : PartOk (answerOn body s).state := by
  unfold answerOn
  split
  · exact ok
  · next d _ =>
    split
    · next off =>
      have record := ok.track.districts d
      exact ok.of_track (ok.track.setDistrict (record.turnedOn off) (.inl rfl) rfl
        (.inl ⟨rfl, fun powered => by cases powered⟩)) rest_setDistrict
    · exact ok

theorem turnOff_ok (d : DistrictNo) : PartOk (turnOff d s) := by
  rw [turnOff_eq, ← releaseClaim_setDistrict]
  exact ok.of_track
    (ok.track.release (ok.track.districts d).turnedOff rfl rfl fun powered =>
      by cases powered) rest_releaseClaim

theorem off_ok : PartOk (answerOff body s).state := by
  unfold answerOff
  split
  · exact ok
  · next d _ =>
    split
    · exact ok
    · exact turnOff_ok ok d

theorem allOff_ok : PartOk (answerAllOff body s).state := by
  unfold answerAllOff
  dsimp only
  split
  · exact ok
  · exact ok.of_track (ok.track.withdraw (fun _ record _ => record.turnedOff) fun _ => ⟨rfl, rfl, rfl⟩)
      (rest_withdraw _ _)

theorem clear_ok : PartOk (answerClear body s).state := by
  unfold answerClear
  split
  · exact ok
  · next d _ =>
    split
    · next locked =>
      exact ok.of_track (ok.track.setDistrict ((ok.track.districts d).cleared locked) (.inl rfl) rfl
        (.inl ⟨rfl, fun powered => by cases powered⟩)) rest_setDistrict
    · exact ok

theorem hold_ok : PartOk (answerHold body s).state := by
  unfold answerHold
  split
  · exact ok
  · next d _ =>
    split
    · exact ok
    · next on =>
      exact ok.of_track (ok.track.setDistrict ((ok.track.districts d).holdMark fun _ => on) (.inl rfl) rfl
        (.inl ⟨rfl, id⟩)) rest_setDistrict

theorem release_ok : PartOk (answerRelease body s).state := by
  unfold answerRelease
  split
  · exact ok
  · next d _ =>
    exact ok.of_track
      (ok.track.setDistrict ((ok.track.districts d).holdMark (b := false) nofun) (.inl rfl) rfl
        (.inl ⟨rfl, id⟩)) rest_setDistrict

theorem setPolarity_ok : PartOk (answerSetPolarity body s).state := by
  unfold answerSetPolarity
  split
  · next d p _ _ =>
    dsimp only
    split
    · exact ok
    · next reversing =>
      split
      · exact ok
      · exact ok.of_track (ok.track.setDistrict ((ok.track.districts d).polarity p reversing) (.inl rfl) rfl
          (.inl ⟨rfl, id⟩)) rest_setDistrict
  · exact ok

/-! ### Feeds and beats -/

theorem configureFeed_ok {allowance width delay : Nat} {fault : FaultLevel}
    (inRange : (1 ≤ allowance ∧ allowance ≤ 250) ∧ (1 ≤ width ∧ width ≤ 8) ∧ (1 ≤ delay ∧ delay ≤ 255))
    (room : (s.feed f).heldSum ≤ allowance) : PartOk (configureFeed f allowance width fault delay s) := by
  obtain ⟨allowanceOk, widthOk, delayOk⟩ := inRange
  obtain ⟨-, -, -, timer, time, line⟩ := ok.track.feeds f
  have track : TrackOk (s.setFeed f { s.feed f with
      allowance := allowance, launchWidth := width, faultLevel := fault, resumeDelay := delay }) :=
    ok.track.setFeed ⟨allowanceOk, widthOk, delayOk, timer, time, line⟩ rfl room .inl
  unfold configureFeed
  dsimp only
  split
  · next same =>
    refine ok.of_track track ⟨fun g => ?_, rfl, id, id, id, id⟩
    rw [State.feed_setFeed]
    split
    · next at_f => subst at_f; exact ⟨rfl, same.symm⟩
    · exact ⟨rfl, rfl⟩
  · refine takeLineLevel_ok track ok.numbering ok.beats ok.counters ok.notices fun free g other => ?_
    have kept : (s.setFeed f { s.feed f with
      allowance := allowance, launchWidth := width, faultLevel := fault, resumeDelay := delay }).feed g =
        s.feed g := by simp [other]
    rw [kept]
    exact (ok.lines free g).trans (faultLineOf_congr (s := s) (t := s.setFeed f _) rfl
      (congrArg Feed.faultLevel kept)).symm

theorem answerConfigureFeed_ok : PartOk (answerConfigureFeed body s).state := by
  unfold answerConfigureFeed
  split
  · dsimp only
    split
    · exact ok
    · next room =>
      refine configureFeed_ok ok ?_ (not_lt.mp room)
      unfold clampTo
      omega
  · exact ok

theorem configureBeat_ok : PartOk (answerConfigureBeat body s).state := by
  unfold answerConfigureBeat
  split
  · exact ok
  · next mode _ =>
    obtain ⟨-, -, timer, pulse, running⟩ := ok.beats
    have interval : 5 ≤ clampTo 5 1000 (wordAt body 2) ∧ clampTo 5 1000 (wordAt body 2) ≤ 1000 := by
      unfold clampTo
      omega
    have spacing : 1 ≤ clampTo 1 255 (wordAt body 4) ∧ clampTo 1 255 (wordAt body 4) ≤ 255 := by
      unfold clampTo
      omega
    refine ok.setBeats ⟨interval, spacing, ?_, pulse, fun free => ?_⟩
    · show (if _ then s.beats.intervalTimer else if _ then some _ else none).getD 0 ≤ _
      split
      · exact timer
      · split
        · exact Nat.mul_le_mul_right _ interval.2
        · exact Nat.zero_le _
    · show (if _ then s.beats.intervalTimer else if _ then some _ else none).isSome = (mode == .internal)
      split
      · next same => rw [same.1]; exact running free
      · split
        · next internal => exact (beq_iff_eq.mpr internal).symm
        · next other => exact (beq_false_of_ne other).symm

/-! ### Counters, notices and numbering -/

theorem PartOk.bank {b : CounterBank} (range : CountersInRange { s with bank := b }) :
    PartOk { s with bank := b } :=
  ok.rest ⟨fun _ => ⟨rfl, rfl⟩, rfl, id, id, fun _ => range, id⟩ (fun _ => rfl) (fun _ => rfl)

theorem counterRead_ok {change : Counter → Counter}
    (range : ∀ c, c.value ≤ 65535 → (change c).value ≤ 65535) :
    PartOk (answerCounterRead change body s).state := by
  unfold answerCounterRead
  split
  · exact ok
  · next run _ =>
    refine ok.bank fun i => ?_
    have read : (changeRun run change s).counter i =
        if i ∈ run then change (s.counter i) else s.counter i := by simp [State.counter, changeRun]
    have counted : ((changeRun run change s).counter i).value ≤ 65535 := by
      rw [read]
      split
      · exact range _ (ok.counters i)
      · exact ok.counters i
    exact counted

theorem configureCounters_ok : PartOk (answerConfigureCounters body s).state := by
  unfold answerConfigureCounters
  split
  · exact ok.bank ok.counters
  · exact ok

theorem configureNotices_ok : PartOk (answerConfigureNotices body s).state := by
  unfold answerConfigureNotices
  dsimp only
  split
  · exact ok
  · split
    · exact ok
    · exact ok.rest ⟨fun _ => ⟨rfl, rfl⟩, rfl, id, id, id, id⟩ (fun _ => rfl) (fun _ => rfl)

theorem setIncidentWrap_ok : PartOk (answerSetIncidentWrap body s).state := by
  have wrap : wordAt body 1 ≤ 65535 := by
    have low := (body.getD (1 - 1) 0).isLt
    have high := (body.getD (1 + 1 - 1) 0).isLt
    simp only [wordAt, byteAt]
    omega
  have numbering : NumberingOk (s.setNumbering 1 (wordAt body 1)) := by
    show 1 ≤ 1 ∧ 1 ≤ max 1 (wordAt body 1) ∧ wordAt body 1 ≤ 65535
    omega
  exact ok.rest ⟨fun _ => ⟨rfl, rfl⟩, rfl, fun _ => numbering, id, id, id⟩ (fun _ => rfl) (fun _ => rfl)

/-! ### Every request -/

/-- What leaves the records, the numbering, the beats, the counters and the notices. -/
theorem PartOk.same (districts : t.districts = s.districts) (feeds : t.feeds = s.feeds)
    (pins : t.pins = s.pins)
    (next : t.nextIncident = s.nextIncident) (wrap : t.incidentWrap = s.incidentWrap)
      (beats : t.beats = s.beats)
    (bank : t.bank = s.bank) (notices : t.notices = s.notices) : PartOk t := by
  have district : ∀ d, t.district d = s.district d := fun d => by simp only [State.district, districts]
  have feed : ∀ f, t.feed f = s.feed f := fun f => by simp only [State.feed, feeds]
  refine ok.rest ⟨fun f => by rw [feed]; exact ⟨rfl, rfl⟩, pins, fun h => ?_, fun h => ?_, fun h i => ?_,
    fun h => ?_⟩ district feed
  · simpa only [NumberingOk, next, wrap] using h
  · simpa only [BeatsOk, beats, held_congr pins] using h
  · rw [State.counter, bank]
    exact h i
  · rw [notices]
    exact h

theorem configureStatusLine_ok : PartOk (answerConfigureStatusLine body s).state := by
  unfold answerConfigureStatusLine
  split
  · exact ok.same rfl rfl rfl rfl rfl rfl rfl rfl
  · exact ok

theorem configureGroup_ok : PartOk (answerConfigureGroup body s).state := by
  unfold answerConfigureGroup
  split
  · exact ok.same rfl rfl rfl rfl rfl rfl rfl rfl
  · exact ok

theorem readDistrict_ok : PartOk (answerReadDistrict body s).state := by
  unfold answerReadDistrict
  split <;> exact ok

theorem readFeed_ok : PartOk (answerReadFeed body s).state := by
  unfold answerReadFeed
  split <;> exact ok

theorem answerRequest_ok (k : RequestKind) : PartOk (answerRequest k body s).state := by
  cases k with
  | identify => exact ok
  | configureDistrict => exact configureDistrict_ok ok
  | readDistrict => exact readDistrict_ok ok
  | configureFeed => exact answerConfigureFeed_ok ok
  | readFeed => exact readFeed_ok ok
  | configureGroup => exact configureGroup_ok ok
  | configureBeat => exact configureBeat_ok ok
  | singleBeat => exact produceBeat_ok ok
  | on => exact on_ok ok
  | off => exact off_ok ok
  | allOff => exact allOff_ok ok
  | clear => exact clear_ok ok
  | hold => exact hold_ok ok
  | release => exact release_ok ok
  | setPolarity => exact setPolarity_ok ok
  | readSummary => exact ok
  | readCounters => exact counterRead_ok ok fun _ h => h
  | readAndClearCounters => exact counterRead_ok ok fun _ _ => Nat.zero_le _
  | configureCounters => exact configureCounters_ok ok
  | configureStatusLine => exact configureStatusLine_ok ok
  | configureNotices => exact configureNotices_ok ok
  | setIncidentWrap => exact setIncidentWrap_ok ok
  | linkStatus => exact ok.same rfl rfl rfl rfl rfl rfl rfl rfl
  | reset => exact ok.same rfl rfl rfl rfl rfl rfl rfl rfl

theorem answer_ok (frame : Frame) : PartOk (answer frame s).state := by
  unfold answer
  split
  · exact ok
  · split
    · exact ok
    · exact answerRequest_ok ok _

theorem PartOk.setLink (l : Link) : PartOk (s.setLink l) := ok.of_link (setLink_alone l) id

theorem takeFrame_ok (frame : Frame) : PartOk (takeFrame frame s) :=
  (answer_ok ok frame).of_link (queueReply_alone _ _) id

/-! ### How an event closes -/

theorem sendReply_ok : PartOk (sendReply s) := by
  refine ok.of_link (sendReply_alone s) fun h => ?_
  unfold sendReply
  split <;> exact h

theorem takeRequests_ok (n : Nat) : PartOk (takeRequests n s) :=
  takeRequests_induction PartOk (fun _ h => sendReply_ok h)
    (fun _ frame _ _ _ h => takeFrame_ok (h.setLink _) frame) n ok

theorem chooseNext_ok : PartOk (chooseNext s) := by
  refine ok.of_link (chooseNext_alone s) fun h => ?_
  rw [chooseNext_eq]
  exact afterChoice_notices _ _ h

theorem refreshLines_ok : PartOk (refreshLines s) := ok.of_link (refreshLines_alone s) id

theorem closeEvent_ok : PartOk (closeEvent s) := refreshLines_ok (chooseNext_ok ok)

theorem closeLinkEvent_ok : PartOk (closeLinkEvent s) :=
  refreshLines_ok (chooseNext_ok (takeRequests_ok ok _))

end

end Sys2Proof.Machine
end

section
/-! The laws of the Link Interface, the resets and time, and the invariant over every step. -/

namespace Sys2Proof.Machine

variable {s t u : State} {c : Instr} {f : Frame}

/-! ### The Link Interface -/

/-- The laws of the Link Interface, but for what it finds to take and to send. -/
structure LinkOk (s : State) : Prop where
  buffer : s.link.receiveBuffer.length ≤ 4
  queue : s.link.replyQueue.length ≤ 4
  tally : s.link.tally ≤ 255
  receiver : ReceiverOk s
  resetReply : ResetReplyLast s

theorem LinkOk.congr (ok : LinkOk s) (same : t.link = s.link) : LinkOk t := by
  obtain ⟨buffer, queue, tally, receiver, resetReply⟩ := ok
  refine ⟨by rwa [same], by rwa [same], by rwa [same], ?_, ?_⟩
  · simpa only [ReceiverOk, same] using receiver
  · simpa only [ResetReplyLast, resetFlags, same] using resetReply

section
variable (ok : LinkOk s)
include ok

theorem discard_linkOk (cause : DiscardCause) : LinkOk (discard cause s) :=
  ⟨ok.buffer, ok.queue, Nat.min_le_right _ _, ok.receiver, ok.resetReply⟩

theorem hunt_linkOk : LinkOk (hunt s) :=
  ⟨ok.buffer, ok.queue, ok.tally, ⟨Iff.intro (fun _ => rfl) (fun _ => rfl), Nat.zero_le _, rfl⟩,
    ok.resetReply⟩

theorem deliver_linkOk (f : Frame) : LinkOk (deliver f s) := by
  unfold deliver
  split
  · next room =>
    refine ⟨?_, ok.queue, ok.tally, ok.receiver, ok.resetReply⟩
    show (s.link.receiveBuffer ++ [f]).length ≤ 4
    rw [List.length_append]
    exact room
  · exact discard_linkOk ok _

theorem awaitMore_linkOk {r : Receiver} (inside : r ≠ .hunting) (legal : frameUnderWay r = true) :
    LinkOk (awaitMore r s) :=
  ⟨ok.buffer, ok.queue, ok.tally, ⟨Iff.intro nofun (fun hunting => absurd hunting inside), le_refl _, legal⟩,
    ok.resetReply⟩

theorem receive_linkOk (b : Byte) : LinkOk (receive b s) := by
  obtain ⟨-, -, underWay⟩ := ok.receiver
  unfold receive
  split
  · split
    · exact awaitMore_linkOk ok nofun rfl
    · exact discard_linkOk ok _
  · split
    · next legal => exact awaitMore_linkOk ok nofun (by simp [frameUnderWay, legal])
    · exact discard_linkOk (hunt_linkOk ok) _
  · next n stored collecting =>
    split
    · unfold completeFrame
      split
      · exact deliver_linkOk (hunt_linkOk ok) _
      · exact discard_linkOk (hunt_linkOk ok) _
    · next short =>
      refine awaitMore_linkOk ok nofun ?_
      rw [collecting] at underWay
      simp only [frameUnderWay, decide_eq_true_eq, List.length_append, List.length_singleton] at underWay ⊢
      omega

/-! ### Replies -/

theorem sendReply_linkOk : LinkOk (sendReply s) := by
  unfold sendReply
  split
  · next r rest free queue =>
    have waiting := ok.queue
    rw [queue, List.length_cons] at waiting
    refine ⟨ok.buffer, Nat.le_of_succ_le waiting, ok.tally, ok.receiver, ?_⟩
    simpa [ResetReplyLast, resetFlags, free, queue, transmission] using ok.resetReply
  · exact ok

/-- No reset reply is under way where no Reset request awaits its soft reset (R145). -/
theorem resetFlags_of_not_pending (none : s.link.resetPending = false) : ∀ b ∈ resetFlags s, b = false := by
  obtain ⟨before, last⟩ := ok.resetReply
  rw [none] at last
  rcases List.eq_nil_or_concat (resetFlags s) with empty | ⟨l, b, flags⟩
  · simp [empty]
  · rw [List.concat_eq_append] at flags
    rw [flags] at before last ⊢
    simp only [List.dropLast_concat, List.getLast?_concat, Option.getD_some] at before last
    intro b' member
    rcases List.mem_append.mp member with earlier | here
    · exact before b' earlier
    · rw [List.mem_singleton.mp here, last]

/-- A reply that is queued while no Reset request awaits its soft reset is the last to go out. -/
theorem queueReply_linkOk {r : Reply} (none : s.link.resetPending = false)
    (room : s.link.replyQueue.length < 4)
    (keeps : AnswerKeeps s t) (pending : t.link.resetPending = r.softReset) (tally : t.link.tally ≤ 255) :
    LinkOk (queueReply r t) := by
  have flags : resetFlags (queueReply r t) = resetFlags s ++ [r.softReset] := by
    simp [resetFlags, queueReply, keeps.replyQueue, keeps.sending]
  refine ⟨?_, ?_, tally, ?_, ?_⟩
  · show t.link.receiveBuffer.length ≤ 4
    rw [keeps.receiveBuffer]
    exact ok.buffer
  · show (t.link.replyQueue ++ [r]).length ≤ 4
    rw [keeps.replyQueue, List.length_append]
    exact room
  · show (t.link.gapTimer = .stopped ↔ t.link.receiver = .hunting) ∧ gapLeft t.link.gapTimer ≤ msTicks 5 ∧
      frameUnderWay t.link.receiver = true
    rw [keeps.receiver, keeps.gapTimer]
    exact ok.receiver
  · have pending' : (queueReply r t).link.resetPending = r.softReset := pending
    rw [ResetReplyLast, flags, pending']
    simpa using resetFlags_of_not_pending ok none

end

/-! ### What the answers leave of the link -/

/-- Only Link Status and Reset write in the Link Interface. -/
theorem answerRequest_link {k : RequestKind} (body : List Byte) (s : State) (notStatus : k ≠ .linkStatus)
    (notReset : k ≠ .reset) : (answerRequest k body s).state.link = s.link := by
  cases k
  case linkStatus => exact absurd rfl notStatus
  case reset => exact absurd rfl notReset
  case singleBeat => exact produceBeat_link s
  all_goals
    simp only [answerRequest, answerIdentify, answerConfigureDistrict, answerReadDistrict,
      answerConfigureFeed, answerReadFeed, answerConfigureGroup, answerConfigureBeat, answerOn, answerOff,
        answerAllOff, answerClear,
      answerHold, answerRelease, answerSetPolarity, answerReadSummary, answerReadCounters,
      answerReadAndClearCounters, answerCounterRead, answerConfigureCounters, answerConfigureStatusLine,
      answerConfigureNotices, answerSetIncidentWrap, refuse]
    repeat' split
    all_goals simp [configureFeed_link, turnOff, changeRun]

/-- The link after a frame is answered: the bar of a Reset request is up exactly where its reply leads to a
soft reset (R145). -/
theorem answer_link (f : Frame) (none : s.link.resetPending = false) :
    (answer f s).state.link.resetPending = (replyTo f (answer f s)).softReset ∧
      (s.link.tally ≤ 255 → (answer f s).state.link.tally ≤ 255) := by
  unfold replyTo answer
  rcases kind : requestKindOf f.kind with _ | k
  · exact ⟨none, id⟩
  dsimp only
  by_cases length : f.body.length = bodyLength k
  · rw [if_neg (by simpa using length)]
    by_cases isStatus : k = .linkStatus
    · subst isStatus
      exact ⟨none, fun _ => Nat.zero_le _⟩
    by_cases isReset : k = .reset
    · subst isReset
      exact ⟨rfl, id⟩
    · rw [answerRequest_link _ _ isStatus isReset]
      refine ⟨?_, id⟩
      have other : (some k == some RequestKind.reset) = false := by simpa using isReset
      rw [none, other, Bool.false_and]
  · rw [if_pos (by simpa using length)]
    refine ⟨none.trans ?_, id⟩
    simp [refuse]

/-- When a request can be taken (R140, R145). -/
theorem canTake_iff : canTake s = true ↔
    s.link.receiveBuffer ≠ [] ∧ s.link.replyQueue.length < 4 ∧ s.link.resetPending = false := by
  simp only [canTake, Bool.and_eq_true, decide_eq_true_eq, Bool.not_eq_true', List.isEmpty_eq_false_iff,
    and_assoc]
  exact Iff.rfl

theorem takeFrame_linkOk (ok : LinkOk s) {rest : List Frame} (buffer : s.link.receiveBuffer = f :: rest)
    (can : canTake s = true) : LinkOk (takeFrame f (s.setLink { s.link with receiveBuffer := rest })) := by
  obtain ⟨-, room, none⟩ := canTake_iff.mp can
  have waiting := ok.buffer
  rw [buffer, List.length_cons] at waiting
  have taken : LinkOk (s.setLink { s.link with receiveBuffer := rest }) :=
    ⟨Nat.le_of_succ_le waiting, ok.queue, ok.tally, ok.receiver, ok.resetReply⟩
  obtain ⟨pending, tally⟩ := answer_link (s := s.setLink { s.link with receiveBuffer := rest }) f none
  exact queueReply_linkOk taken none room (answer_keeps _ f) pending (tally taken.tally)

theorem takeRequests_linkOk (ok : LinkOk s) (n : Nat) : LinkOk (takeRequests n s) :=
  takeRequests_induction LinkOk (fun _ h => sendReply_linkOk h)
    (fun _ _ _ buffer can h => takeFrame_linkOk h buffer can) n ok

/-! ### What closes a step -/

/-- After the requests have been taken none waits that could be, and the transmitter has begun the reply it
could. -/
theorem takeRequests_done {n : Nat} (enough : s.link.receiveBuffer.length ≤ n) :
    canTake (takeRequests n s) = false ∧ sendReply (takeRequests n s) = takeRequests n s := by
  induction n generalizing s with
  | zero =>
    exact ⟨canTake_of_empty (.inl (List.eq_nil_of_length_eq_zero (Nat.le_zero.mp enough))), sendReply_idem s⟩
  | succ n ih =>
    unfold takeRequests
    split
    · refine ih ?_
      have waiting := enough
      rw [← (sendReply_receiveBuffer s).1] at waiting
      unfold takeOldest
      split
      · next empty => simp [empty]
      · next f rest buffer =>
        have left (v : State) : (takeFrame f v).link.receiveBuffer = v.link.receiveBuffer :=
          (answer_keeps v f).receiveBuffer
        rw [left]
        rw [buffer, List.length_cons] at waiting
        exact Nat.le_of_succ_le_succ waiting
    · next cannot => exact ⟨by simpa using cannot, sendReply_idem s⟩

/-- After the transmitter's choice nothing that could be taken or sent waits (R140, R144). -/
theorem chooseNext_settles (cannot : canTake (sendReply s) = false) : LinkSettled (chooseNext s) := by
  have begun : (sendReply s).link.sending = none → (sendReply s).link.replyQueue = [] := by
    unfold sendReply
    split
    · nofun
    · next others =>
      intro free
      rcases queue : s.link.replyQueue with _ | ⟨r, rest⟩
      · rfl
      · exact absurd queue (others r rest free)
  have waits : (sendReply s).link.receiveBuffer = [] ∨ 4 ≤ (sendReply s).link.replyQueue.length ∨
      (sendReply s).link.resetPending = true := by
    by_contra none
    rw [not_or, not_or, not_le, Bool.not_eq_true] at none
    rw [canTake_iff.mpr none] at cannot
    cases cannot
  unfold chooseNext
  generalize sendReply s = v at begun waits
  unfold sendNotice
  split
  · next free queue entries =>
    split
    · exact ⟨nofun, waits⟩
    · next off => exact ⟨fun h => ⟨begun h, .inr (by simpa using off)⟩, waits⟩
  · next others =>
    refine ⟨fun free => ⟨begun free, .inl ?_⟩, waits⟩
    rcases entries : v.notices.entries with _ | ⟨n, rest⟩
    · rfl
    · exact (others n rest free (begun free) entries).elim

theorem chooseNext_linkOk (ok : LinkOk s) : LinkOk (chooseNext s) := by
  have replied := sendReply_linkOk ok
  unfold chooseNext
  generalize sendReply s = v at replied
  unfold sendNotice
  split
  · next free queue entries =>
    split
    · refine ⟨replied.buffer, replied.queue, replied.tally, replied.receiver, ?_⟩
      have resetReply := replied.resetReply
      simp only [ResetReplyLast, resetFlags, free, queue] at resetReply
      obtain ⟨-, last⟩ := resetReply
      refine ⟨by simp [resetFlags, queue], ?_⟩
      show (resetFlags _).getLast?.getD false = v.link.resetPending
      rw [← last]
      simp [resetFlags, queue, transmission]
    · exact replied
  · exact replied

/-! ### The invariant -/

/-- The invariant, by the parts in which it is kept. -/
theorem inv_iff : Inv s ↔ PartOk s ∧ LinkOk s ∧ LinkSettled s ∧ LevelsFollow s ∧ HeldAtReset s := by
  constructor
  · rintro ⟨districts, parents, numbering, feeds, budget, down, lines, beats, counters, levels,
      ⟨notices, buffer, queue, tally⟩, receiver, settled, resetReply, atReset⟩
    exact ⟨⟨⟨districts, parents, feeds, budget, down⟩, lines, numbering, beats, counters, notices⟩,
      ⟨buffer, queue, tally, receiver, resetReply⟩, settled, levels, atReset⟩
  · rintro ⟨⟨⟨districts, parents, feeds, budget, down⟩, lines, numbering, beats, counters, notices⟩,
      ⟨buffer, queue, tally, receiver, resetReply⟩, settled, levels, atReset⟩
    exact ⟨districts, parents, numbering, feeds, budget, down, lines, beats, counters, levels,
      ⟨notices, buffer, queue, tally⟩, receiver, settled, resetReply, atReset⟩

theorem closeEvent_inv (part : PartOk s) (link : LinkOk s) (cannot : canTake (sendReply s) = false)
    (free : s.held = false) : Inv (closeEvent s) := by
  have same : (closeEvent s).held = s.held := (closeEvent_alone s).outside.held
  exact inv_iff.mpr ⟨closeEvent_ok part, (chooseNext_linkOk link).congr rfl, chooseNext_settles cannot,
    refreshLines_levels _, fun held => by rw [same, free] at held; cases held⟩

theorem closeLinkEvent_inv (part : PartOk s) (link : LinkOk s) (free : s.held = false) :
    Inv (closeLinkEvent s) := by
  have same : (closeLinkEvent s).held = s.held := (closeLinkEvent_outside s).held
  obtain ⟨cannot, sent⟩ := takeRequests_done (n := Config.receiveCapacity) link.buffer
  refine inv_iff.mpr ⟨closeLinkEvent_ok part, (chooseNext_linkOk (takeRequests_linkOk link _)).congr rfl,
    chooseNext_settles (s := takeRequests Config.receiveCapacity s) (sent.symm ▸ cannot),
    refreshLines_levels _, fun held => by rw [same, free] at held; cases held⟩

/-! ### Events -/

/-- An event outside the Link Interface finds no more to take than there was. -/
theorem canTake_of_link (settled : LinkSettled s) (same : u.link = s.link) :
    canTake (sendReply u) = false := by
  have still : sendReply u = u := by
    unfold sendReply
    rw [same]
    split
    · next r rest free queue => rw [(settled.1 free).1] at queue; cases queue
    · rfl
  rw [still]
  have canTake_same : canTake u = canTake s := by simp only [canTake, same]
  rw [canTake_same, canTake_of_settled settled]

/-- The records while every district is in Off and no claim is held. -/
theorem trackOk_of_off (districts : ∀ d, DistrictOk (s.district d) ∧ (s.district d).state = .off)
    (parents : ParentsAcyclic s) (feeds : ∀ f, FeedOk (s.feed f) ∧ (s.feed f).heldSum = 0) : TrackOk s := by
  refine ⟨fun d => (districts d).1, parents, fun f => (feeds f).1, fun f => ?_, fun d _ => ?_⟩
  · have nothing : heldClaims s f = 0 := by
      rw [heldClaims_eq]
      refine Finset.sum_eq_zero fun d _ => ?_
      obtain ⟨record, off⟩ := districts d
      simp [claimOn, heldClaim_of_not_settling record (by simp [off])]
    rw [(feeds f).2, nothing]
    exact ⟨rfl, Nat.zero_le _⟩
  · simp [closedState, (districts d).2]

/-! ### The soft reset -/

theorem softResetFeed_ok {x : Feed} (ok : FeedOk x) (pin : Level) : FeedOk (softResetFeed pin x) := by
  obtain ⟨allowance, width, delay, -, -, -⟩ := ok
  rw [softResetFeed_eq]
  refine ⟨allowance, width, delay, ?_, Nat.zero_le _, ?_⟩ <;>
    rcases readFault x.faultLevel pin with _ | _ <;> simp

theorem softReset_ok (ok : PartOk s) : PartOk (softResetBlocks s) := by
  have district : ∀ d, (softResetBlocks s).district d = softResetDistrict (s.district d) := fun d => by
    simp [softResetBlocks, State.district]
  have feed : ∀ f : FeedNo, (softResetBlocks s).feed f = softResetFeed s.pins.faultInput[f.val] (s.feed f) :=
    fun f => by simp [softResetBlocks, State.feed]
  obtain ⟨interval, spacing, -, -, -⟩ := ok.beats
  obtain ⟨-, -, wrap⟩ := ok.numbering
  refine ⟨trackOk_of_off (fun d => ?_) (fun d => ?_) (fun f => ?_), fun _ f => ?_,
    ⟨le_refl _, Nat.le_max_left _ _, wrap⟩, ⟨interval, spacing, ?_, Nat.zero_le _, fun _ => ?_⟩, ok.counters,
      Nat.zero_le _⟩
  · rw [district]
    exact ⟨(ok.track.districts d).softReset, rfl⟩
  · exact (parentChainEnds_congr (fun e => by rw [district]; rfl) 24 d).trans (ok.track.parents d)
  · rw [feed]
    exact ⟨softResetFeed_ok (ok.track.feeds f) _, by rw [softResetFeed_eq]⟩
  · rw [faultLineOf, feed, softResetFeed_eq]
    rfl
  · show (if s.beats.mode = .internal then some (msTicks s.beats.interval) else none).getD 0 ≤ _
    split
    · exact Nat.mul_le_mul_right _ interval.2
    · exact Nat.zero_le _
  · show (if s.beats.mode = .internal then some (msTicks s.beats.interval) else none).isSome = _
    split
    · next internal => exact (beq_iff_eq.mpr internal).symm
    · next other => exact (beq_false_of_ne other).symm

theorem endTransmission_ok (ok : PartOk s) : PartOk (endTransmission s) := by
  have freed := ok.setLink { s.link with sending := none }
  unfold endTransmission
  dsimp only
  split
  · split
    · exact softReset_ok freed
    · exact freed
  · exact freed

theorem endTransmission_linkOk (ok : LinkOk s) (ended : transmissionOver s = true) :
    LinkOk (endTransmission s) := by
  obtain ⟨x, sending, -⟩ := transmissionOver_iff.mp ended
  obtain ⟨before, last⟩ := ok.resetReply
  have flags : resetFlags s = x.softReset :: s.link.replyQueue.map (·.softReset) := by
    simp [resetFlags, sending]
  rcases reset : x.softReset with _ | _
  · rw [endTransmission_plain sending reset]
    rw [flags, reset] at before last
    refine ⟨ok.buffer, ok.queue, ok.tally, ok.receiver, ?_⟩
    rcases queue : s.link.replyQueue with _ | ⟨r, rest⟩
    · simpa [ResetReplyLast, resetFlags, queue] using last
    · rw [queue] at before last
      simp only [List.map_cons, List.dropLast_cons_cons, List.getLast?_cons_cons] at before last
      refine ⟨fun b member => before b (List.mem_cons_of_mem _ ?_), ?_⟩
      · simpa [resetFlags, queue] using member
      · simpa [resetFlags, queue] using last
  · have alone : s.link.replyQueue = [] := by
      rcases queue : s.link.replyQueue with _ | ⟨r, rest⟩
      · rfl
      · have := before true (by simp [flags, reset, queue])
        cases this
    rw [endTransmission_reset sending reset]
    exact ⟨Nat.zero_le _, ok.queue, ok.tally, ok.receiver,
      by simp [ResetReplyLast, resetFlags, softResetBlocks, alone]⟩

/-! ### Hard reset -/

/-- A part at its hard-reset values meets the invariant, its lines read and its interval timer running where
the reset has ended. -/
theorem inv_of_atHardReset (atReset : AtHardReset s) (feeds : ∀ f, FeedOk (s.feed f))
    (lines : LineLevelsRead s)
    (timer : s.beats.intervalTimer.getD 0 ≤ msTicks 1000)
    (running : s.held = false → s.beats.intervalTimer.isSome = true) (held : HeldAtReset s) : Inv s := by
  obtain ⟨districts, next, wrap, sums, -, -, mode, interval, spacing, -, pulse, counters, -, -, outputs,
    notices, receiver, gap, buffer, queue, sending, tally, -, pending⟩ := atReset
  have district : ∀ d, s.district d = .initial := districts
  have flags : resetFlags s = [] := by simp [resetFlags, sending, queue]
  have track : TrackOk s := by
    refine trackOk_of_off (fun d => ?_) (fun d => ?_) (fun f => ⟨feeds f, ?_⟩)
    · rw [district]
      exact ⟨districtOk_initial, rfl⟩
    · rw [parentChainEnds, district]
      rfl
    · obtain ⟨-, -, -, -, -, sum⟩ := sums f
      exact sum
  refine inv_iff.mpr ⟨⟨track, lines, ?_, ?_, fun i => ?_, ?_⟩, ⟨?_, ?_, ?_, ?_, ?_⟩,
    ⟨fun _ => ⟨queue, .inl ?_⟩, .inl buffer⟩, fun n => ?_, held⟩
  · rw [NumberingOk, next, wrap]
    decide
  · rw [BeatsOk, interval, spacing, pulse, mode]
    exact ⟨by decide, by decide, timer, Nat.zero_le _, running⟩
  · rw [counters]
    exact Nat.zero_le _
  · rw [notices]
    exact Nat.zero_le _
  · rw [buffer]
    exact Nat.zero_le _
  · rw [queue]
    exact Nat.zero_le _
  · rw [tally]
    exact Nat.zero_le _
  · rw [ReceiverOk, receiver, gap]
    exact ⟨Iff.intro (fun _ => rfl) (fun _ => rfl), Nat.zero_le _, rfl⟩
  · rw [ResetReplyLast, flags, pending]
    exact ⟨nofun, rfl⟩
  · rw [notices]
  · rw [outputs, lineLevel]
    split <;> rfl

/-- A part that is held at its hard-reset values meets the invariant. -/
theorem inv_of_held (held : s.held = true) (atReset : hardResetBlocks s.link.rate s = s) : Inv s := by
  have feed : ∀ f, s.feed f = .initial := fun f => by
    rw [← atReset]
    exact tabulate_getElem (fun _ : FeedNo => Feed.initial) f.val f.isLt
  have timer : s.beats.intervalTimer = none := by
    rw [← atReset]
    rfl
  have still : s.held ≠ false := by simp [held]
  refine inv_of_atHardReset (atReset ▸ atHardReset_blocks _ s) (fun f => ?_)
    (fun free => absurd free still) ?_ (fun free => absurd free still) fun _ => atReset
  · rw [feed]
    decide
  · rw [timer]
    exact Nat.zero_le _

/-- The end of a hard reset: the lines are read and the interval timer starts (R176). -/
theorem endHardReset_inv (strap : LinkRate) (atReset : hardResetBlocks s.link.rate s = s)
    (free : s.held = false) :
    Inv (endHardReset strap s) := by
  have feed : ∀ f : FeedNo,
      (endHardReset strap s).feed f = feedFromLine .activeLow s.pins.faultInput[f.val] .initial := by
    intro f
    refine (State.feed_mapFeeds s (fun f x => feedFromLine .activeLow s.pins.faultInput[f.val] x) f).trans ?_
    rw [← atReset]
    exact congrArg _ (tabulate_getElem (fun _ : FeedNo => Feed.initial) f.val f.isLt)
  have timer : (endHardReset strap s).beats.intervalTimer = some (msTicks s.beats.interval) := rfl
  have interval : s.beats.interval = 200 := by
    rw [← atReset]
    rfl
  have blocks : AtHardReset (endHardReset strap s) := atHardReset_end strap (atReset ▸ atHardReset_blocks _ s)
  have ended : (endHardReset strap s).held = false := free
  refine inv_of_atHardReset blocks (fun f => ?_) (fun _ f => ?_) ?_ (fun _ => rfl) fun held => ?_
  · rw [feed]
    rcases s.pins.faultInput[f.val] with _ | _ <;> decide
  · rw [faultLineOf, feed]
    rfl
  · rw [timer, interval]
    decide
  · rw [ended] at held
    cases held

/-- The machine after reset stands where a hard reset has ended. -/
theorem reset_eq : State.reset = endHardReset .baud57600 (hardResetBlocks .baud57600 State.reset) := by
  refine State.ext_parts (fun d => rfl) (fun f => ?_) rfl
  simp [State.feed, State.reset, endHardReset, State.mapFeeds, hardResetBlocks, feedFromLine, readFault,
    Feed.initial]

/-- Settles O57. -/
theorem invAtReset : Obligations.InvAtReset := by
  unfold Obligations.InvAtReset
  rw [reset_eq]
  exact endHardReset_inv .baud57600 rfl rfl

end Sys2Proof.Machine
end

section
/-! The invariant over every step: time, commands, and the three statements on what every step keeps. -/

namespace Sys2Proof.Machine

variable {s t u : State} {c : Instr}

/-! ### The model's own fields -/

/-- The laws do not look at the clock, the choices and the waiting commands. -/
theorem inv_outside (inv : Inv s) (now choices : Nat) (pending : List Instr) :
    Inv { s with now := now, choices := choices, pending := pending } := by
  obtain ⟨part, link, settled, levels, atReset⟩ := inv_iff.mp inv
  refine inv_iff.mpr ⟨part.same rfl rfl rfl rfl rfl rfl rfl rfl, link.congr rfl, settled, fun n => ?_,
    fun held => ?_⟩
  · refine (levels n).trans ?_
    show lineLevel s (s.line n).source _ = lineLevel _ (s.line n).source _
    generalize (s.line n).source = source
    cases source <;> rfl
  · exact congrArg (fun v : State => { v with now := now, choices := choices, pending := pending })
      (atReset held)

/-! ### Time -/

theorem runTimers_district (s : State) (d : DistrictNo) :
    (runTimers s).district d = districtLater (s.district d) :=
  State.district_mapDistricts s (fun _ x => districtLater x) d

theorem runTimers_feed (s : State) (f : FeedNo) :
    (runTimers s).feed f = { s.feed f with resumeTimer := countDown (s.feed f).resumeTimer } :=
  State.feed_mapFeeds (s.mapDistricts fun _ x => districtLater x)
    (fun _ x => { x with resumeTimer := countDown x.resumeTimer }) f

theorem countDown_isSome (t : Option Nat) : (countDown t).isSome = t.isSome := by
  simp [countDown]

theorem countDown_le {t : Option Nat} {n : Nat} (h : t.getD 0 ≤ n) : (countDown t).getD 0 ≤ n := by
  cases t with
  | none => exact h
  | some m => exact le_trans (Nat.sub_le m 1) h

theorem runTimers_ok (ok : PartOk s) : PartOk (runTimers s) := by
  obtain ⟨interval, spacing, timer, pulse, running⟩ := ok.beats
  have config : ∀ d, ((runTimers s).district d).config = (s.district d).config := fun d => by
    rw [runTimers_district]
    rfl
  have track : TrackOk (runTimers s) := by
    refine ⟨fun d => ?_, fun d => ?_, fun f => ?_, fun f => ?_, fun d off => ?_⟩
    · rw [runTimers_district]
      exact (ok.track.districts d).later
    · exact (parentChainEnds_congr (fun e => by rw [config]) 24 d).trans (ok.track.parents d)
    · obtain ⟨allowance, width, delay, resuming, time, line⟩ := ok.track.feeds f
      rw [runTimers_feed]
      exact ⟨allowance, width, delay, (countDown_isSome _).trans resuming, countDown_le time, line⟩
    · have claims : heldClaims (runTimers s) f = heldClaims s f := by
        simp only [heldClaims_eq, runTimers_district]
        rfl
      rw [claims, runTimers_feed]
      exact ok.track.budget f
    · rw [config, runTimers_feed] at off
      rw [runTimers_district]
      exact ok.track.down d off
  refine ok.of_track track ⟨fun f => ?_, rfl, id, fun _ => ?_, id, id⟩
  · rw [runTimers_feed]
    exact ⟨rfl, rfl⟩
  · exact ⟨interval, spacing, countDown_le timer, countDown_le pulse,
      fun free => (countDown_isSome _).trans (running free)⟩

theorem gapLater_ok (rate : LinkRate) {g : GapTimer} (h : gapLeft g ≤ msTicks 5) :
    (gapLater rate g = .stopped ↔ g = .stopped) ∧ gapLeft (gapLater rate g) ≤ msTicks 5 := by
  rcases g with _ | (_ | n) | n
  · exact ⟨Iff.rfl, h⟩
  · refine ⟨Iff.intro nofun nofun, ?_⟩
    cases rate <;> decide
  · exact ⟨Iff.intro nofun nofun, le_trans (Nat.le_succ n) h⟩
  · exact ⟨Iff.intro nofun nofun, le_trans (Nat.sub_le n 1) h⟩

theorem runTimers_linkOk (ok : LinkOk s) : LinkOk (runTimers s) := by
  obtain ⟨stopped, left, underWay⟩ := ok.receiver
  obtain ⟨gapStopped, gapLeft⟩ := gapLater_ok s.link.rate left
  have flags : resetFlags (runTimers s) = resetFlags s := by
    simp only [resetFlags, runTimers, State.setLink_link]
    cases s.link.sending <;> rfl
  refine ⟨ok.buffer, ok.queue, ok.tally, ⟨gapStopped.trans stopped, gapLeft, underWay⟩, ?_⟩
  have resetReply := ok.resetReply
  rw [ResetReplyLast, ← flags] at resetReply
  exact resetReply

/-- No status source looks at the time that a running timer has left (R126). -/
theorem sourceValue_runTimers (s : State) (source : Source) :
    sourceValue (runTimers s) source = sourceValue s source := by
  have district := runTimers_district s
  have feed := runTimers_feed s
  cases source with
  | deviceNoticePending | deviceCounterAttention => rfl
  | beatPulse => exact countDown_isSome _
  | _ =>
    simp only [sourceValue, feedAnyTripped, feedAllPowered, district, feed, energized, powered,
      Machine.tripped, lockedOut, districtLater]

theorem runTimers_inv (inv : Inv s) (free : s.held = false) : Inv (runTimers s) := by
  obtain ⟨part, link, settled, levels, -⟩ := inv_iff.mp inv
  have same : (runTimers s).held = s.held := rfl
  refine inv_iff.mpr ⟨runTimers_ok part, runTimers_linkOk link, ⟨fun idle => settled.1 ?_, settled.2⟩,
    fun n => ?_, fun held => ?_⟩
  · exact Option.map_eq_none_iff.mp idle
  · have line : (runTimers s).line n = s.line n := rfl
    rw [line, levels n, lineLevel, lineLevel, sourceValue_runTimers, same]
  · rw [same, free] at held
    cases held

theorem passTime_inv (inv : Inv s) : Inv (passTime s) := by
  unfold passTime
  split
  · exact inv_outside inv _ _ _
  · next free =>
    split
    · exact inv_outside inv _ _ _
    · exact inv_outside (runTimers_inv inv (by simpa using free)) _ _ _

/-! ### Commands -/

theorem deliver_notices (f : Frame) (s : State) : (deliver f s).notices = s.notices := by
  unfold deliver
  split <;> rfl

/-- The receiver hands no notice. -/
theorem receive_notices (b : Byte) (s : State) : (receive b s).notices = s.notices := by
  unfold receive
  split
  · split <;> rfl
  · split <;> rfl
  · split
    · unfold completeFrame
      split
      · exact deliver_notices _ _
      · rfl
    · rfl

theorem linkEvent_inv (inv : Inv s) (free : s.held = false) (event : LinkEvent s c u) :
    Inv (closeLinkEvent u) := by
  obtain ⟨part, link, -, -, -⟩ := inv_iff.mp inv
  have stays : u.held = false := (linkEvent_outside event).held.trans free
  have kept : PartOk u ∧ LinkOk u := by
    cases event with
    | request c f frame =>
      exact ⟨part.of_link (deliver_alone f s) (deliver_notices f s ▸ id), deliver_linkOk link f⟩
    | byte b stop => exact ⟨part.of_link (receive_alone b s) (receive_notices b s ▸ id),
      receive_linkOk link b⟩
    | gap inside =>
      exact ⟨part.of_link ((hunt_alone s).trans (discard_alone _)) id, discard_linkOk (hunt_linkOk link) _⟩
    | sent c ended => exact ⟨endTransmission_ok part, endTransmission_linkOk link ended⟩
  exact closeLinkEvent_inv kept.1 kept.2 stays

/-- Every command keeps the invariant. -/
theorem does_inv (inv : Inv s) (does : Does s c t) : Inv t := by
  obtain ⟨part, link, settled, levels, atReset⟩ := inv_iff.mp inv
  cases does with
  | nothing => exact inv
  | part _ u free event =>
    exact closeEvent_inv (partEvent_ok part event) (link.congr (partEvent_leaves event).link)
      (canTake_of_link settled (partEvent_leaves event).link) ((partEvent_leaves event).held.trans free)
  | link _ u free event => exact linkEvent_inv inv free event
  | heldEdge f level held => exact inv_of_held held (congrArg (setFaultPin f level) (atReset held))
  | hardReset => exact inv_of_held (by simp [startHardReset, hardResetBlocks, setResetInput, State.held]) rfl
  | resetEnd strap low =>
    have held : s.held = true := by simp [State.held, low]
    have stands : hardResetBlocks s.link.rate (setResetInput .high s) = setResetInput .high s :=
      congrArg (setResetInput .high) (atReset held)
    unfold releaseReset
    dsimp only
    split
    · next up => exact endHardReset_inv strap stands (by simp [setResetInput, State.held, up])
    · next down => exact inv_of_held (by simp [setResetInput, State.held, down]) stands
  | powerUp strap down =>
    have held : s.held = true := by simp [State.held, down]
    have stands : hardResetBlocks s.link.rate (setSupply true s) = setSupply true s :=
      congrArg (setSupply true) (atReset held)
    unfold completePowerUp
    dsimp only
    split
    · next low => exact inv_of_held (by simp [setSupply, State.held, low]) stands
    · next high => exact endHardReset_inv strap stands (by simp [setSupply, State.held, high])
  | lossOfSupply => exact inv_of_held (by simp [loseSupply, hardResetBlocks, setSupply, State.held]) rfl

/-! ### Every step -/

/-- Every step keeps the invariant: time passes, or the front command runs. -/
theorem step_inv (inv : Inv s) (h : step s = .next t) : Inv t := by
  rcases front : s.pending with _ | ⟨c, rest⟩
  · rw [step, front, Host.Outcome.next.injEq] at h
    exact h ▸ passTime_inv inv
  · rw [step, front] at h
    exact does_inv (inv_outside inv s.now s.choices rest) (does_of_exec h)

/-- Settles O58. -/
theorem districtLawsKept : Obligations.DistrictLawsKept := by
  intro s t inv h
  obtain ⟨part, -⟩ := inv_iff.mp (step_inv inv h)
  exact ⟨part.track.districts, part.track.parents, part.numbering⟩

/-- Settles O59. -/
theorem feedLawsKept : Obligations.FeedLawsKept := by
  intro s t inv h
  obtain ⟨part, -⟩ := inv_iff.mp (step_inv inv h)
  exact ⟨part.track.feeds, part.track.budget, part.track.down, part.lines⟩

/-- Settles O60. -/
theorem linkAndLineLawsKept : Obligations.LinkAndLineLawsKept := by
  intro s t inv h
  obtain ⟨part, link, settled, levels, atReset⟩ := inv_iff.mp (step_inv inv h)
  exact ⟨part.beats, part.counters, levels, ⟨part.notices, link.buffer, link.queue, link.tally⟩,
    link.receiver, settled, link.resetReply, atReset⟩

end Sys2Proof.Machine
end

section
/-! When a switch closes: no event but a beat closes an open one, and a beat closes those of candidates. -/

namespace Sys2Proof.Machine

variable {s t u v : State} {c : Instr} {d : DistrictNo} {f : FeedNo} {x : District}

/-! ### What closes no switch -/

/-- Every switch that is open stays so. -/
def StaysOpen (s t : State) : Prop :=
  ∀ d, (s.district d).switchClosed = false → (t.district d).switchClosed = false

theorem StaysOpen.refl (s : State) : StaysOpen s s := fun _ h => h

theorem StaysOpen.trans (h : StaysOpen s t) (k : StaysOpen t u) :
    StaysOpen s u := fun d isOpen => k d (h d isOpen)

theorem LinkAlone.staysOpen (h : LinkAlone s t) : StaysOpen s t := fun d isOpen => by rwa [h.district]

/-- A record that is written with its switch open, or as it stood. -/
theorem staysOpen_of_record (here : (s.district d).switchClosed = false → (t.district d).switchClosed = false)
    (others : ∀ e, e ≠ d → t.district e = s.district e) : StaysOpen s t := by
  intro e isOpen
  by_cases at_d : e = d
  · subst at_d
    exact here isOpen
  · rwa [others e at_d]

theorem staysOpen_setDistrict (here : (s.district d).switchClosed = false → x.switchClosed = false) :
    StaysOpen s (s.setDistrict d x) :=
  staysOpen_of_record (d := d) (by simpa using here) fun e other => by simp [other]

theorem staysOpen_release (here : (s.district d).switchClosed = false → x.switchClosed = false) :
    StaysOpen s ((releaseClaim d s).setDistrict d x) :=
  staysOpen_of_record (d := d) (by simpa using here) fun e other => by simp [other]

theorem staysOpen_withdraw {chosen : District → Bool} {change : District → District}
    (out : ∀ x, (change x).switchClosed = false) : StaysOpen s (withdraw chosen change s) := by
  intro d isOpen
  rw [withdraw_district]
  split
  · exact out _
  · exact isOpen

theorem takeSample_staysOpen (value : Nat) (beyond : Bool) : StaysOpen s (takeSample d value beyond s) := by
  rcases isClosed : (s.district d).switchClosed with _ | _
  · rw [takeSample_open isClosed]
    exact staysOpen_setDistrict id
  · rw [takeSample_closed isClosed]
    have closed : ∀ {y}, (s.district d).switchClosed = false → y = false := fun isOpen => by
      rw [isClosed] at isOpen
      cases isOpen
    split
    · exact staysOpen_setDistrict closed
    · refine staysOpen_of_record (d := d) closed fun e other => ?_
      simp [flipDistrict, other]
    · rw [tripDistrict_eq]
      refine staysOpen_of_record (d := d) closed fun e other => ?_
      show (State.setDistrict _ d _).district e = _
      simp [other]

theorem settleDistrict_staysOpen : StaysOpen s (settleDistrict d s) := by
  by_cases time : (s.district d).config.provingTime = 0
  · rw [settleDistrict_energized time]
    exact staysOpen_release (s := s) (d := d) id
  · rw [settleDistrict_proving time]
    exact staysOpen_release id

theorem proveDistrict_staysOpen : StaysOpen s (proveDistrict d s) := by
  rw [proveDistrict_eq]
  exact staysOpen_setDistrict (s := s) (d := d) id

theorem takeLineLevel_staysOpen (f : FeedNo) (level : LineLevel) (s : State) :
    StaysOpen s (takeLineLevel f level s) := by
  rcases level with _ | _
  · by_cases down : (s.feed f).state = .suspended
    · rw [takeLineLevel_released down]
      exact .refl s
    · rw [takeLineLevel_recorded (.inr ⟨rfl, down⟩)]
      exact .refl s
  · by_cases down : (s.feed f).state = .suspended
    · rw [takeLineLevel_recorded (.inl ⟨rfl, down⟩)]
      exact .refl s
    · rw [takeLineLevel_asserted down]
      intro d isOpen
      show ((feedAsserted s f).district d).switchClosed = false
      rw [feedAsserted_district]
      split
      · rfl
      · exact isOpen

theorem configureFeed_staysOpen (allowance width delay : Nat) (fault : FaultLevel) :
    StaysOpen s (configureFeed f allowance width fault delay s) := by
  unfold configureFeed
  dsimp only
  split
  · exact .refl s
  · exact StaysOpen.trans (.refl s) (takeLineLevel_staysOpen f _ (s.setFeed f _))

/-- No answer but Single Beat's closes a switch. -/
theorem answerRequest_staysOpen {k : RequestKind} (body : List Byte) (other : k ≠ .singleBeat) :
    StaysOpen s (answerRequest k body s).state := by
  cases k
  case singleBeat => exact absurd rfl other
  case configureFeed =>
    simp only [answerRequest, answerConfigureFeed]
    split
    · split
      · exact .refl s
      · exact configureFeed_staysOpen _ _ _ _
    · exact .refl s
  case off =>
    simp only [answerRequest, answerOff]
    split
    · exact .refl s
    · next d _ =>
      split
      · exact .refl s
      · rw [turnOff_eq, ← releaseClaim_setDistrict]
        exact staysOpen_release fun _ => rfl
  case allOff =>
    simp only [answerRequest, answerAllOff]
    split
    · exact .refl s
    · exact staysOpen_withdraw fun _ => rfl
  case configureDistrict =>
    simp only [answerRequest, answerConfigureDistrict]
    split
    · split
      · exact .refl s
      · split
        · exact .refl s
        · exact staysOpen_setDistrict id
    · exact .refl s
  case on =>
    simp only [answerRequest, answerOn]
    split
    · exact .refl s
    · split
      · exact staysOpen_setDistrict id
      · exact .refl s
  case clear =>
    simp only [answerRequest, answerClear]
    split
    · exact .refl s
    · split
      · exact staysOpen_setDistrict id
      · exact .refl s
  case hold =>
    simp only [answerRequest, answerHold]
    split
    · exact .refl s
    · split
      · exact .refl s
      · exact staysOpen_setDistrict id
  case release =>
    simp only [answerRequest, answerRelease]
    split
    · exact .refl s
    · exact staysOpen_setDistrict id
  case setPolarity =>
    simp only [answerRequest, answerSetPolarity]
    split
    · split
      · exact .refl s
      · split
        · exact .refl s
        · exact staysOpen_setDistrict id
    · exact .refl s
  all_goals
    simp only [answerRequest, answerIdentify, answerReadDistrict, answerReadFeed, answerConfigureGroup,
      answerConfigureBeat, answerReadSummary, answerReadCounters, answerReadAndClearCounters,
        answerCounterRead,
      answerConfigureCounters, answerConfigureStatusLine, answerConfigureNotices, answerSetIncidentWrap,
      answerLinkStatus, answerReset, refuse]
    repeat' split
    all_goals exact StaysOpen.refl s

/-! ### Single Beats among the frames -/

/-- A frame that names Single Beat and has its length is a Single Beat request. -/
theorem isSingleBeat_iff : ∀ frame : Frame, isSingleBeat frame = true ↔
    requestKindOf frame.kind = some .singleBeat ∧ frame.body.length = bodyLength .singleBeat := by
  intro frame
  have code : requestKindOf frame.kind = some .singleBeat ↔ frame.kind = requestCode .singleBeat := by
    refine ⟨fun named => ?_, fun same => by rw [same]; rfl⟩
    exact (beq_iff_eq.mp (List.find?_some (p := fun k => requestCode k == frame.kind) named)).symm
  rw [isSingleBeat, decide_eq_true_eq, code]
  exact and_congr_right fun _ => List.length_eq_zero_iff.symm

theorem answer_staysOpen {frame : Frame} (other : isSingleBeat frame = false) :
    StaysOpen s (answer frame s).state := by
  unfold answer
  rcases kind : requestKindOf frame.kind with _ | k
  · exact .refl s
  dsimp only
  split
  · exact .refl s
  · next length =>
    refine answerRequest_staysOpen _ fun beat => ?_
    subst beat
    rw [(isSingleBeat_iff frame).mpr ⟨kind, not_not.mp length⟩] at other
    cases other

theorem answer_singleBeat {frame : Frame} (beat : isSingleBeat frame = true) :
    (answer frame s).state = produceBeat s := by
  obtain ⟨kind, length⟩ := (isSingleBeat_iff frame).mp beat
  rw [answer, kind]
  simp only [length, ne_eq, not_true_eq_false, ↓reduceIte]
  rfl

/-! ### What a beat closes -/

/-- The record that a beat launches is a candidate's (R88); the others and the feeds' states stand. -/
theorem produceBeat_leaves (s : State) : (∀ d, (produceBeat s).district d = s.district d ∨
      readyToLaunch s (s.district d) = true ∧ ((produceBeat s).district d).state = .settling) ∧
    ∀ f, ((produceBeat s).feed f).state = (s.feed f).state := by
  have whole : produceBeat s = takeBeat (s.setBeats { s.beats with
      lastBeat := some s.now
      pulseTimer := some (msTicks 1)
      intervalTimer :=
        if s.beats.mode = .internal then some (msTicks s.beats.interval) else s.beats.intervalTimer }) := rfl
  rw [whole]
  generalize hv : s.setBeats _ = v
  have district : ∀ d, v.district d = s.district d := fun d => by subst hv; rfl
  have feed : ∀ f, v.feed f = s.feed f := fun f => by subst hv; rfl
  refine ⟨fun d => ?_, fun f => by rw [takeBeat_feed, feed]⟩
  rw [takeBeat_district, (walk_state v).district, district]
  split
  · next launched =>
    have ready := readyToLaunch_of_candidate (candidate_of_mem_walkOrder (mem_walkOrder_of_launchedAt
      (launchedAt_iff_walk.mpr launched)))
    rw [readyToLaunch_iff, district, feed, ← readyToLaunch_iff] at ready
    exact .inr ⟨ready, rfl⟩
  · exact .inl rfl

/-- Beats alone have been taken since `s`: a record that does not stand was launched from Ready. -/
def BeatsAlone (s v : State) : Prop :=
  (∀ d, v.district d = s.district d ∨
    readyToLaunch s (s.district d) = true ∧ (v.district d).state = .settling) ∧
  ∀ f, (v.feed f).state = (s.feed f).state

theorem BeatsAlone.refl (s : State) : BeatsAlone s s := ⟨fun _ => .inl rfl, fun _ => rfl⟩

theorem BeatsAlone.link (h : BeatsAlone s u) (alone : LinkAlone u v) : BeatsAlone s v :=
  ⟨fun d => by rw [alone.district]; exact h.1 d, fun f => by rw [alone.feed]; exact h.2 f⟩

theorem BeatsAlone.beat (h : BeatsAlone s v) : BeatsAlone s (produceBeat v) := by
  obtain ⟨districts, feeds⟩ := h
  obtain ⟨launches, states⟩ := produceBeat_leaves v
  refine ⟨fun d => ?_, fun f => (states f).trans (feeds f)⟩
  rcases launches d with same | ⟨ready, settling⟩
  · rw [same]
    exact districts d
  · rcases districts d with before | ⟨-, launched⟩
    · rw [before, readyToLaunch_iff, feeds, ← readyToLaunch_iff] at ready
      exact .inr ⟨ready, settling⟩
    · rw [(readyToLaunch_iff.mp ready).1] at launched
      cases launched

/-- A switch that beats alone have closed is that of a district that was ready to be launched. -/
theorem BeatsAlone.ready (h : BeatsAlone s t) (isOpen : (s.district d).switchClosed = false)
    (closed : (t.district d).switchClosed = true) : readyToLaunch s (s.district d) = true := by
  rcases h.1 d with same | ⟨ready, -⟩
  · rw [same, isOpen] at closed
    cases closed
  · exact ready

/-! ### Requests that are taken -/

/-- What is taken is among the frames at hand: where none of them is a Single Beat no switch closes, and where
all are only beats are taken. -/
theorem closeLinkEvent_takes {frames : List Frame} (here : ∀ frame ∈ s.link.receiveBuffer, frame ∈ frames) :
    ((∃ frame ∈ frames, isSingleBeat frame = true) ∨ StaysOpen s (closeLinkEvent s)) ∧
      ((∀ frame ∈ frames, isSingleBeat frame = true) → BeatsAlone s (closeLinkEvent s)) := by
  have alone : LinkAlone (takeRequests Config.receiveCapacity s) (closeLinkEvent s) :=
    (chooseNext_alone _).trans (refreshLines_alone _)
  have taken := takeRequests_induction
    (fun v => (∀ frame ∈ v.link.receiveBuffer, frame ∈ frames) ∧
      ((∃ frame ∈ frames, isSingleBeat frame = true) ∨ StaysOpen s v) ∧
      ((∀ frame ∈ frames, isSingleBeat frame = true) → BeatsAlone s v))
    (fun v ⟨buffer, stays, beats⟩ =>
      ⟨fun frame member => buffer frame ((sendReply_receiveBuffer v).1 ▸ member),
        stays.imp_right fun h => h.trans (sendReply_alone v).staysOpen,
          fun all => (beats all).link (sendReply_alone v)⟩)
    ?_ Config.receiveCapacity (s := s) ⟨here, .inr (.refl s), fun _ => .refl s⟩
  · obtain ⟨-, stays, beats⟩ := taken
    exact ⟨stays.imp_right fun h => h.trans alone.staysOpen, fun all => (beats all).link alone⟩
  · rintro v frame rest buffer - ⟨inside, stays, beats⟩
    have member : frame ∈ frames := inside frame (by simp [buffer])
    have removed := setLink_alone (s := v) { v.link with receiveBuffer := rest }
    generalize hw : v.setLink { v.link with receiveBuffer := rest } = w at removed
    have left : w.link.receiveBuffer = rest := by subst hw; rfl
    have queued := queueReply_alone (replyTo frame (answer frame w)) (answer frame w).state
    refine ⟨fun frame' member' => inside frame' ?_, ?_, fun all => ?_⟩
    · have still : (takeFrame frame w).link.receiveBuffer = rest :=
          ((answer_keeps w frame).receiveBuffer).trans left
      rw [still] at member'
      rw [buffer]
      exact List.mem_cons_of_mem _ member'
    · rcases beat : isSingleBeat frame with _ | _
      · exact stays.imp_right fun h =>
          ((h.trans removed.staysOpen).trans (answer_staysOpen beat)).trans queued.staysOpen
      · exact .inl ⟨frame, member, beat⟩
    · have produced := ((beats all).link removed).beat
      rw [← answer_singleBeat (all frame member)] at produced
      exact produced.link queued

/-! ### Every command -/

/-- A hard reset opens every switch. -/
theorem hardReset_staysOpen (rate : LinkRate) (s v : State) :
    StaysOpen s (hardResetBlocks rate v) := fun d _ => by
  simp [hardResetBlocks, State.district, District.initial]

theorem produceBeat_ready (isOpen : (s.district d).switchClosed = false)
    (closed : ((closeEvent (produceBeat s)).district d).switchClosed = true) :
    readyToLaunch s (s.district d) = true :=
  (((BeatsAlone.refl s).beat).link (closeEvent_alone _)).ready isOpen closed

/-- No event outside the Link Interface but a beat closes a switch. -/
theorem partEvent_staysOpen (event : PartEvent s c u) (notInterval : c ≠ .intervalExpiry)
    (notEdge : c ≠ .beatInputEdge) : StaysOpen s u := by
  cases event with
  | sample d value beyond => exact takeSample_staysOpen _ beyond
  | settle d => exact settleDistrict_staysOpen
  | proving d => exact proveDistrict_staysOpen
  | backoff d => exact staysOpen_setDistrict id
  | interval => exact absurd rfl notInterval
  | beatInput => exact absurd rfl notEdge
  | pulse => exact .refl s
  | faultEdge f level => exact StaysOpen.trans (.refl s) (takeLineLevel_staysOpen f _ (setFaultPin f level s))
  | resume f =>
    intro d isOpen
    simpa [resumeFeed] using isOpen

/-- The frames that wait when an event of the Link Interface closes are among those at hand. -/
theorem receiveBuffer_atHand (event : LinkEvent s c u) :
    ∀ frame ∈ u.link.receiveBuffer, frame ∈ framesAtHand c s := by
  have waits : ∀ frame ∈ s.link.receiveBuffer, frame ∈ framesAtHand c s := fun frame member =>
    List.mem_append_left _ (List.mem_append_left _ member)
  have delivered : ∀ (v : State) (f frame : Frame), v.link.receiveBuffer = s.link.receiveBuffer →
      f ∈ framesAtHand c s → frame ∈ (deliver f v).link.receiveBuffer → frame ∈ framesAtHand c s := by
    intro v f frame same arrives member
    unfold deliver at member
    split at member
    · rw [State.setLink_link, same] at member
      rcases List.mem_append.mp member with earlier | here
      · exact waits frame earlier
      · exact List.mem_singleton.mp here ▸ arrives
    · have member' : frame ∈ v.link.receiveBuffer := member
      rw [same] at member'
      exact waits frame member'
  cases event with
  | request c f isFrame =>
    have arrives : f ∈ framesAtHand c s := by simp [framesAtHand, isFrame]
    exact fun frame member => delivered s f frame rfl arrives member
  | byte b stop =>
    intro frame member
    unfold receive at member
    split at member
    · split at member <;> exact waits frame member
    · split at member <;> exact waits frame member
    · next n stored collecting =>
      split at member
      · unfold completeFrame at member
        split at member
        · refine delivered (hunt s) _ frame rfl ?_ member
          simp [framesAtHand, collecting]
        · exact waits frame member
      · exact waits frame member
  | gap => exact waits
  | sent c ended =>
    intro frame member
    refine waits frame ?_
    unfold endTransmission at member
    dsimp only at member
    split at member
    · split at member
      · cases member
      · exact member
    · exact member

/-- At the end of the Reset reply every switch opens, and no request is left to be taken (R20, R145). -/
theorem endTransmission_reset_staysOpen {x : Transmission} (sending : s.link.sending = some x)
    (reset : x.softReset = true) :
    StaysOpen s (closeLinkEvent (endTransmission s)) := by
  rw [endTransmission_reset sending reset, closeLinkEvent_of_not (canTake_of_empty (.inl rfl))]
  refine StaysOpen.trans (fun d _ => ?_) (closeEvent_alone _).staysOpen
  simp [softResetBlocks, State.district, softResetDistrict]

/-- The Link Interface's events leave the records before requests are taken, but for the soft reset. -/
theorem linkEvent_records (event : LinkEvent s c u) :
    LinkAlone s u ∨ StaysOpen s (closeLinkEvent u) := by
  cases event with
  | request c f frame => exact .inl (deliver_alone f s)
  | byte b stop => exact .inl (receive_alone b s)
  | gap inside => exact .inl ((hunt_alone s).trans (discard_alone _))
  | sent c ended =>
    obtain ⟨x, sending, -⟩ := transmissionOver_iff.mp ended
    rcases reset : x.softReset with _ | _
    · rw [endTransmission_plain sending reset]
      exact .inl (setLink_alone _)
    · exact .inr (endTransmission_reset_staysOpen sending reset)

/-- The commands at which a waiting or arriving request can be taken. -/
theorem linkEvent_command (event : LinkEvent s c u) (closes : ¬ StaysOpen s (closeLinkEvent u)) :
    c.frame?.isSome = true ∨ (∃ b stop, c = .receiveByte b stop) ∨ c = .transmissionEnd ∨
      c = .gapExpiry ∧ ¬ LinkSettled s := by
  cases event with
  | request c f frame => exact .inl (by simp [frame])
  | byte b stop => exact .inr (.inl ⟨b, stop, rfl⟩)
  | gap inside =>
    refine .inr (.inr (.inr ⟨rfl, fun settled => closes ?_⟩))
    have nothing : canTake (sendReply (discard .gap (hunt s))) = false := by
      have settled' : LinkSettled (discard .gap (hunt s)) := settled
      rw [sendReply_settled _ settled', canTake_of_settled settled']
    rw [closeLinkEvent_of_not nothing]
    exact (((hunt_alone s).trans (discard_alone _)).trans (closeEvent_alone _)).staysOpen
  | sent c ended command =>
    rcases command with isEnd | ⟨-, reset⟩
    · exact .inr (.inr (.inl isEnd))
    · obtain ⟨x, sending, -⟩ := transmissionOver_iff.mp ended
      rw [sendingResetReply, sending] at reset
      exact absurd (endTransmission_reset_staysOpen sending reset) closes

/-- Settles O5. -/
theorem switchClosesOnlyAtBeats : Obligations.SwitchClosesOnlyAtBeats := by
  intro c s t d run isOpen closed fromReady
  have closes : ¬ StaysOpen s t := fun stays => by
    rw [stays d isOpen] at closed
    cases closed
  have ready : readyToLaunch s (s.district d) = true → fromReady := readyToLaunch_iff.mp
  cases does_of_exec run with
  | nothing => exact absurd (.refl s) closes
  | part _ u free event =>
    by_cases beat : c = .intervalExpiry ∨ c = .beatInputEdge
    · refine .inl ⟨beat, ready ?_⟩
      rcases beat with rfl | rfl <;> cases event <;> exact produceBeat_ready isOpen closed
    · rw [not_or] at beat
      exact absurd ((partEvent_staysOpen event beat.1 beat.2).trans (closeEvent_alone u).staysOpen) closes
  | link _ u free event =>
    refine .inr ⟨linkEvent_command event closes, ?_⟩
    obtain ⟨stays, beats⟩ := closeLinkEvent_takes (receiveBuffer_atHand event)
    have records : LinkAlone s u := (linkEvent_records event).resolve_right closes
    refine ⟨stays.resolve_right fun stays => closes (records.staysOpen.trans stays), fun all => ready ?_⟩
    have since := beats all
    have fromS : BeatsAlone s (closeLinkEvent u) := by
      obtain ⟨districts, feeds⟩ := since
      refine ⟨fun e => ?_, fun f => by rw [feeds, records.feed]⟩
      have same := districts e
      rwa [readyToLaunch_iff, records.district, records.feed, ← readyToLaunch_iff] at same
    exact fromS.ready isOpen closed
  | heldEdge f level held => exact absurd (fun d h => h) closes
  | hardReset => exact absurd (hardReset_staysOpen _ _ _) closes
  | resetEnd strap low =>
    refine absurd (fun d h => ?_) closes
    unfold releaseReset
    dsimp only
    split <;> exact h
  | powerUp strap down =>
    refine absurd (fun d h => ?_) closes
    unfold completePowerUp
    dsimp only
    split <;> exact h
  | lossOfSupply => exact absurd (hardReset_staysOpen _ _ _) closes

end Sys2Proof.Machine
end
